-- ==== Sys2Proof/Word.lean ====
section
/-! DEFINITION. The byte that the link ports exchange (09 R167). The part has no wider machine word: every
other quantity is a count with a stated range (00 section 4.2) and is a `Nat`. -/

namespace Sys2Proof

/-- One byte of a link frame. -/
abbrev Byte := BitVec 8

/-- The 24-bit layout shared by the notice set and the attention mask (09 R183). -/
abbrev NoticeBits := BitVec 24

end Sys2Proof
end

