-- ==== Sys2Proof/Syntax.lean ====
section
/-! DEFINITION. The names the manual gives to filters, circuits and ports (00 section 4.1), and the commands:
one constructor of `Instr` for each row of spec/opcode_table.json. -/

namespace Sys2Proof

/-- The filters 1 to 6, and their selectors. -/
inductive FilterId where
  | f1 | f2 | f3 | f4 | f5 | f6
deriving DecidableEq, Repr, Inhabited

/-- The pool circulation circuits. -/
inductive CircuitId where
  | A | B | C | D
deriving DecidableEq, Repr, Inhabited

/-- The link ports: one for each circuit, and the plant port P. -/
inductive PortId where
  | circuit (c : CircuitId)
  | plant
deriving DecidableEq, Repr, Inhabited

/-- Clockwise counts up, counter-clockwise counts down. -/
inductive Dir where
  | cw | ccw
deriving DecidableEq, Repr, Inhabited

/-- One item for each filter of the bank. -/
structure Bank (α : Type) where
  (f1 f2 f3 f4 f5 f6 : α)
deriving DecidableEq, Repr

/-- The commands. A request carries the port it came on and its parameter bytes as they came, so that a wrong
count (09 R181) is a command too. An event of a contact carries the new debounced level. -/
inductive Instr where
  /-- RESET_N (11 R205), with the debounced levels of the six DP switches (01 R25). -/
  | powerOn (dp : Bank Bool)
  /-- A FETCH frame of so many whole bytes, its first byte among them (09 R169). -/
  | fetch (port : PortId) (bytes : Nat)
  /-- A frame that fails (09 R172): its whole bytes, and whether SEL cut a further byte short. -/
  | linkError (port : PortId) (bytes : List Byte) (cut : Bool)
  | unknownRequest (port : PortId) (kind : Byte) (params : List Byte)
  | setDemand (port : PortId) (params : List Byte)
  | setMode (port : PortId) (params : List Byte)
  | setDose (port : PortId) (params : List Byte)
  | requestBackwash (port : PortId) (params : List Byte)
  | abortBackwash (port : PortId) (params : List Byte)
  | readCircuit (port : PortId) (params : List Byte)
  | readFilter (port : PortId) (params : List Byte)
  | readQueue (port : PortId) (params : List Byte)
  | readNotices (port : PortId) (params : List Byte)
  | setAttention (port : PortId) (params : List Byte)
  | portClear (port : PortId) (params : List Byte)
  | ping (port : PortId) (params : List Byte)
  | writeSetting (port : PortId) (params : List Byte)
  | readSetting (port : PortId) (params : List Byte)
  | startPlant (port : PortId) (params : List Byte)
  | restart (port : PortId) (params : List Byte)
  | takeOutOfUse (port : PortId) (params : List Byte)
  | returnToUse (port : PortId) (params : List Byte)
  | clearLine (port : PortId) (params : List Byte)
  | purgeEntry (port : PortId) (params : List Byte)
  | flowPulse (circuit : CircuitId)
  | flowProofExpiry (circuit : CircuitId)
  | binTimerExpiry
  | wastePulse
  | runTimeMinute (filter : FilterId)
  | recheckExpiry (filter : FilterId)
  | dpSwitchChange (filter : FilterId) (active : Bool)
  | dpHoldExpiry (filter : FilterId)
  | refillTimerExpiry
  | bwStartChange (above : Bool)
  | lowLowChange (active : Bool)
  | phaseTimerExpiry
  | lineFlowProofExpiry
  | suspendTimerExpiry
  | plantStopOpens
  | plantStopRelease
  | surgeChange (active : Bool)
  | bulkLowChange (active : Bool)
  | silenceTimerExpiry (circuit : CircuitId)
  | pacingTimerExpiry (circuit : CircuitId)
  | strokeTimerExpiry (circuit : CircuitId)
  | dwellExpiry (filter : FilterId)
  | profileInterval (filter : FilterId)
  /-- A debounced change of a selector's torque input for one direction. -/
  | torqueTrip (filter : FilterId) (dir : Dir) (active : Bool)
  /-- The debounced closing of a selector's detent. -/
  | detentClose (filter : FilterId)
  | settleTimeout (filter : FilterId)
  /-- The debounced opening of a selector's detent. -/
  | detentLossAtRest (filter : FilterId)
  /-- A raw home flag edge, rising or falling. -/
  | homeEdgeRaw (filter : FilterId) (rising : Bool)
  /-- The 20 ms hold of a home flag edge confirms: the debounced level takes the new value. -/
  | homeEdgeConfirmed (filter : FilterId) (rising : Bool)
  | homeEdgeHoldFails (filter : FilterId)
deriving DecidableEq, Repr

end Sys2Proof
end

