-- ==== Sys2Proof/Config.lean ====
section
/-! DEFINITION. What the manual leaves free, as constants without a body, and the fixed figures of the part. -/

namespace Sys2Proof

/-- The three reactions to the release of plant stop whose order the manual leaves open (04 R83, 08 R164): the
selectors' resume, the Line's recovery and the allocation pass. One constructor for each order. -/
inductive ReleaseOrder where
  | resumeRecoverPass | resumePassRecover | recoverResumePass
  | recoverPassResume | passResumeRecover | passRecoverResume
deriving DecidableEq, Repr, Inhabited

/-- FREE VALUE (log entry 8): the order of the reactions at the release of plant stop. -/
opaque Config.releaseOrder : Nat → ReleaseOrder

/-- FREE VALUE (log entry 7): the elapsed seconds of a running DP hold timer, before it is held below the
timer's length. -/
opaque Config.elapsedSeconds : Nat → Nat

/-- FREE VALUE (log entry 3): whether the qualified level of a circuit's flow meter, found high, has gone low again while
the part took no command. -/
opaque Config.flowMeterFalls : Nat → CircuitId → Bool

/-- FREE VALUE (log entry 3): the same of the waste meter. -/
opaque Config.wasteMeterFalls : Nat → Bool

/-- The top of the throughput count (01 R2). -/
abbrev Config.throughputMax : Nat := 99999999
/-- The top of a 16-bit count (01 R2, 02 R32, R33, 07 R132). -/
abbrev Config.count16Max : Nat := 65535
/-- The top of the delivered count (07 R132). -/
abbrev Config.count32Max : Nat := 4294967295
/-- The grace set by a completed clean (02 R43). -/
abbrev Config.graceLitres : Nat := 2000
/-- The most owed strokes (07 R132). -/
abbrev Config.owedMax : Nat := 8
/-- Steps to a revolution (00 section 4.1). -/
abbrev Config.revolution : Nat := 1600
/-- The limit of the search counter (06 R127). -/
abbrev Config.searchLimit : Nat := 1700
/-- The longest parameter list of a request (09 R172). -/
abbrev Config.maxParams : Nat := 24
/-- How many passes, evaluations and grants one event may take (log entry 9). -/
abbrev Config.settleRounds : Nat := 40

end Sys2Proof
end

