-- ==== Sys2Proof/Decode.lean ====
section
/-! DEFINITION. The frames of the link ports (09): the request kinds and their codes (R181), the decoder that reads
a frame from its bytes, total on any bytes and rejecting by the errors of R172, and the encoder of a request
frame (R171). The opcode table gives no row any bits, so `decodeTableWord` answers `none`. -/

namespace Sys2Proof

/-- The request kinds (09 R181). -/
inductive Kind where
  | setDemand | setMode | setDose | requestBackwash | abortBackwash | readCircuit | readFilter | readQueue
  | readNotices | setAttention | portClear | ping | writeSetting | readSetting | startPlant | restart
  | takeOutOfUse | returnToUse | clearLine | purgeEntry
deriving DecidableEq, Repr, Inhabited

/-- Every request kind. -/
def allKinds : List Kind :=
  [.setDemand, .setMode, .setDose, .requestBackwash, .abortBackwash, .readCircuit, .readFilter, .readQueue,
   .readNotices, .setAttention, .portClear, .ping, .writeSetting, .readSetting, .startPlant, .restart,
   .takeOutOfUse, .returnToUse, .clearLine, .purgeEntry]

/-- The code of a kind (09 R181). -/
def Kind.code : Kind → Byte
  | .setDemand => 0x21#8
  | .setMode => 0x22#8
  | .setDose => 0x23#8
  | .requestBackwash => 0x31#8
  | .abortBackwash => 0x32#8
  | .readCircuit => 0x41#8
  | .readFilter => 0x42#8
  | .readQueue => 0x43#8
  | .readNotices => 0x44#8
  | .setAttention => 0x51#8
  | .portClear => 0x52#8
  | .ping => 0x53#8
  | .writeSetting => 0x61#8
  | .readSetting => 0x62#8
  | .startPlant => 0x71#8
  | .restart => 0x72#8
  | .takeOutOfUse => 0x73#8
  | .returnToUse => 0x74#8
  | .clearLine => 0x75#8
  | .purgeEntry => 0x76#8

/-- The kind that a request's first byte names, if it names one (10 R186, check 1). -/
def kindOf (b : Byte) : Option Kind :=
  allKinds.find? fun k => k.code == b

/-- The parameter count of a kind (09 R181). -/
def Kind.count : Kind → Nat
  | .setDemand => 3
  | .setMode => 2
  | .setDose => 3
  | .requestBackwash => 1
  | .abortBackwash => 1
  | .readCircuit => 1
  | .readFilter => 1
  | .readQueue => 0
  | .readNotices => 0
  | .setAttention => 3
  | .portClear => 0
  | .ping => 0
  | .writeSetting => 5
  | .readSetting => 1
  | .startPlant => 0
  | .restart => 0
  | .takeOutOfUse => 1
  | .returnToUse => 1
  | .clearLine => 0
  | .purgeEntry => 1

/-- The kinds that only port P may send (10 R186). -/
def Kind.plantOnly : Kind → Bool
  | .writeSetting | .readSetting | .startPlant | .restart | .takeOutOfUse | .returnToUse | .clearLine
  | .purgeEntry => true
  | .setDemand | .setMode | .setDose | .requestBackwash | .abortBackwash | .readCircuit | .readFilter
  | .readQueue | .readNotices | .setAttention | .portClear | .ping => false

/-- The kinds refused outside RUNNING (10 R186, check 4). -/
def Kind.runningOnly : Kind → Bool
  | .requestBackwash | .abortBackwash | .takeOutOfUse | .returnToUse => true
  | .setDemand | .setMode | .setDose | .readCircuit | .readFilter | .readQueue | .readNotices
  | .setAttention | .portClear | .ping | .writeSetting | .readSetting | .startPlant | .restart | .clearLine
  | .purgeEntry => false

/-- The errors of a failed frame (09 R172). -/
inductive LinkErrorKind where
  | truncated | check | length
deriving DecidableEq, Repr, Inhabited

/-- The exclusive OR of a list of bytes (09 R169, R171). -/
def xorBytes : List Byte → Byte
  | [] => 0#8
  | b :: bs => b ^^^ xorBytes bs

/-- What a frame turns out to be. -/
inductive Frame where
  /-- No rising edge of SCK: no effect (09 R167). -/
  | nothing
  /-- A FETCH frame (09 R169). -/
  | fetch
  /-- A good request frame (09 R171): its kind byte and its parameters. -/
  | request (kind : Byte) (params : List Byte)
  /-- A failed frame (09 R172). -/
  | failed (error : LinkErrorKind)
deriving DecidableEq, Repr

/-- The frame that a port's whole bytes make, `cut` saying whether SEL was deasserted inside a further byte
(09 R169, R171, R172). -/
def readFrame : List Byte → Bool → Frame
  | [], cut => if cut then .failed .truncated else .nothing
  | kind :: rest, _ =>
    if kind = 0#8 then .fetch
    else
      match rest with
      | [] => .failed .truncated
      | n :: body =>
        if Config.maxParams < n.toNat then .failed .length
        else if body.length < n.toNat + 1 then .failed .truncated
        else if xorBytes (kind :: n :: body.take (n.toNat + 1)) = 0#8 then .request kind (body.take n.toNat)
        else .failed .check

/-- The bytes of a request frame (09 R171): kind, length, parameters and check. -/
def requestBytes (kind : Byte) (params : List Byte) : List Byte :=
  let body := kind :: BitVec.ofNat 8 params.length :: params
  body ++ [xorBytes body]

/-- The bytes of a FETCH frame of `n` whole bytes: the master's bytes after the first are ignored (09 R169), so
they are zeros. -/
def fetchBytes (n : Nat) : List Byte :=
  List.replicate n 0#8

/-- No row of the opcode table has bits, so no word spells a command. -/
def decodeTableWord (_nbits _w : Nat) : Option Instr :=
  none

end Sys2Proof
end

