-- ==== Sys2Proof/Machine/State.lean ====
section
/-! DEFINITION. The state of the part: every piece of state the manual gives it, as plain data, and its values at
power-on (`State.reset`). INVENTORY.md lists each field with the rule that names it. -/

namespace Sys2Proof

/-! ## Families of like things -/

/-- Every filter, lowest-numbered first. -/
def allFilters : List FilterId :=
  [.f1, .f2, .f3, .f4, .f5, .f6]

/-- Every circuit, in the order of their names. -/
def allCircuits : List CircuitId :=
  [.A, .B, .C, .D]

/-- Every port. -/
def allPorts : List PortId :=
  [.circuit .A, .circuit .B, .circuit .C, .circuit .D, .plant]

/-- The item of one filter. -/
def Bank.get {α : Type} (b : Bank α) : FilterId → α
  | .f1 => b.f1
  | .f2 => b.f2
  | .f3 => b.f3
  | .f4 => b.f4
  | .f5 => b.f5
  | .f6 => b.f6

/-- The bank with one filter's item replaced. -/
def Bank.set {α : Type} (b : Bank α) (f : FilterId) (x : α) : Bank α :=
  match f with
  | .f1 => { b with f1 := x }
  | .f2 => { b with f2 := x }
  | .f3 => { b with f3 := x }
  | .f4 => { b with f4 := x }
  | .f5 => { b with f5 := x }
  | .f6 => { b with f6 := x }

/-- A bank with the same item for every filter. -/
def Bank.all {α : Type} (x : α) : Bank α :=
  ⟨x, x, x, x, x, x⟩

/-- One item for each circuit. -/
structure PerCircuit (α : Type) where
  (A B C D : α)
deriving DecidableEq, Repr

/-- The item of one circuit. -/
def PerCircuit.get {α : Type} (p : PerCircuit α) : CircuitId → α
  | .A => p.A
  | .B => p.B
  | .C => p.C
  | .D => p.D

/-- The items with one circuit's replaced. -/
def PerCircuit.set {α : Type} (p : PerCircuit α) (k : CircuitId) (x : α) : PerCircuit α :=
  match k with
  | .A => { p with A := x }
  | .B => { p with B := x }
  | .C => { p with C := x }
  | .D => { p with D := x }

/-- The same item for every circuit. -/
def PerCircuit.all {α : Type} (x : α) : PerCircuit α :=
  ⟨x, x, x, x⟩

/-- One item for each port. -/
structure PerPort (α : Type) where
  circuits : PerCircuit α
  plant : α
deriving DecidableEq, Repr

/-- The item of one port. -/
def PerPort.get {α : Type} (p : PerPort α) : PortId → α
  | .circuit k => p.circuits.get k
  | .plant => p.plant

/-- The items with one port's replaced. -/
def PerPort.set {α : Type} (p : PerPort α) (q : PortId) (x : α) : PerPort α :=
  match q with
  | .circuit k => { p with circuits := p.circuits.set k x }
  | .plant => { p with plant := x }

namespace Machine

/-! ## Filter Table (01, 02) -/

/-- The ten filter states (01 R2). -/
inductive FilterState where
  | unknown | homing | standby | joining | service | leaving | cleaning | parking | outOfUse | fault
deriving DecidableEq, Repr, Inhabited

/-- The fault kinds (01 R2, R9). -/
inductive FaultKind where
  | jammed | positionLost | homeNotFound | unrinsed | mediaBlocked
deriving DecidableEq, Repr, Inhabited

/-- How a clean ended (01 R2, 04 R67). -/
inductive CleanOutcome where
  | none | complete | short | aborted | noFlow
deriving DecidableEq, Repr, Inhabited

/-- A DP hold timer (02 R41): stopped at zero, running for so many seconds, or stopped at its expiry. -/
inductive HoldTimer where
  | stopped
  | running (seconds : Nat)
  | expired (seconds : Nat)
deriving DecidableEq, Repr, Inhabited

/-- A filter record (01 R2) with its two service timers (02 R38, R39). -/
structure FilterRecord where
  state : FilterState
  circuit : Option CircuitId
  cover : Bool
  releaseOnReturn : Bool
  rinseOwed : Bool
  throughput : Nat
  runTime : Nat
  dpActive : Bool
  dpTimer : HoldTimer
  grace : Nat
  faultKind : Option FaultKind
  backwashCount : Nat
  lastOutcome : CleanOutcome
  minuteTimer : Bool
  recheckTimer : Bool
deriving DecidableEq, Repr

/-! ## Flow Monitor (02) -/

/-- The Flow Monitor's items of one circuit: the flow-proof timer with the seconds it was started for (R30), and
the rate ring (R32), the closed bins newest first. -/
structure FlowRecord where
  proofTimer : Option Nat
  openBin : Nat
  closedBins : List Nat
deriving DecidableEq, Repr

/-- The qualified levels of the five meter inputs (02 R27), high as `true`. A pulse is the change from low to high. The
change to low between two pulses is no event of the table: it comes in a step that takes no command, or at the latest with
the next pulse (log entry 3). -/
structure Meters where
  circuits : PerCircuit Bool
  waste : Bool
deriving DecidableEq, Repr

/-! ## Backwash Queue and Line (03, 04) -/

/-- A set of backwash reasons (03 R47). -/
structure Reasons where
  throughput : Bool := false
  runTime : Bool := false
  pressure : Bool := false
  requested : Bool := false
  retry : Bool := false
deriving DecidableEq, Repr

/-- The eligibility of a queue entry (03 R51). -/
inductive Eligibility where
  | eligible | inTransit | floorBlocked | needsStop
deriving DecidableEq, Repr, Inhabited

/-- An entry of the Backwash Queue (03 R47). -/
structure QueueEntry where
  filter : FilterId
  reasons : Reasons
  eligibility : Eligibility
deriving DecidableEq, Repr

/-- The eight selector stops (00 section 4.1). -/
inductive Stop where
  | closed
  | circuit (c : CircuitId)
  | backwash
  | rinse
  | park
deriving DecidableEq, Repr, Inhabited

/-- The phases of a clean (04 R67). -/
inductive Phase where
  | toBackwash | backwashRun | toRinse | rinseRun | returning | suspended | stopHeld
deriving DecidableEq, Repr, Inhabited

/-- A phase timer (04 R67, R79): stopped, running, or held where it stands; with the minutes it was started for. -/
inductive PhaseTimer where
  | stopped
  | running (minutes : Nat)
  | held (minutes : Nat)
deriving DecidableEq, Repr, Inhabited

/-- The Line's flow-proof timer (04 R67, R76, R79): stopped, running for its 15 s, or held where it stands. -/
inductive FlowTimer where
  | stopped
  | running
  | held
deriving DecidableEq, Repr, Inhabited

/-- The Backwash Line record (04 R67). -/
structure LineRecord where
  filter : FilterId
  startCircuit : Option CircuitId
  reasons : Reasons
  phase : Phase
  heldPhase : Option Phase
  counted : Nat
  phaseTimer : PhaseTimer
  flowTimer : FlowTimer
  suspendTimer : Option Nat
  wetted : Bool
  outcome : CleanOutcome
  exitUnrinsed : Bool
  abortPending : Bool
  requeue : Bool
  returnTarget : Stop
deriving DecidableEq, Repr

/-- The Line: its availability (03 R59), the output BWPUMP (04 R69) and the record of the clean (04 R67). -/
structure Line where
  available : Bool
  pump : Bool
  clean : Option LineRecord
deriving DecidableEq, Repr

/-- The waste allowance and the tank switches (03 R55, R58): `lowLow` is LOW_LOW active, `bwStart` is BW_START
above. -/
structure Waste where
  allowance : Nat
  lowLow : Bool
  bwStart : Bool
deriving DecidableEq, Repr

/-! ## Selector Drive (05, 06) -/

/-- The channel states (05 R98). -/
inductive ChannelState where
  | unreferenced | idle | waiting | dwell | moving | paused | settling | faulted
deriving DecidableEq, Repr, Inhabited

/-- The phases of a homing travel (06 R117). -/
inductive HomingPhase where
  | clear | search | approach
deriving DecidableEq, Repr, Inhabited

/-- A home edge record (06 R117, R123): the count and direction at the raw edge; and, for the model, whether the edge
rises and the steps emitted since it (R128). -/
structure EdgeRecord where
  position : Option Nat
  dir : Dir
  rising : Bool
  steps : Nat
deriving DecidableEq, Repr

/-- The travel settings copied at the slot hand-out (05 R97): START_SPEED, RUN_SPEED, SPEED_STEP, SOFT_BAND and
START_CREEP. -/
structure Profile where
  startSpeed : Nat
  runSpeed : Nat
  speedStep : Nat
  softBand : Nat
  startCreep : Nat
deriving DecidableEq, Repr

/-- A Selector Channel (05 R97, 06 R117) with its outputs (05 R114). -/
structure Channel where
  state : ChannelState
  position : Option Nat
  speed : Nat
  residue : Nat
  creep : Nat
  dir : Option Dir
  slowLatch : Bool
  overrun : Bool
  profile : Profile
  cwTorque : Bool
  ccwTorque : Bool
  detent : Bool
  home : Bool
  seated : Bool
  settleTimer : Option Nat
  settleStop : Option Stop
  edge : Option EdgeRecord
  homing : Option HomingPhase
  search : Nat
  dirOut : Bool
  pulses : Nat
deriving DecidableEq, Repr

/-- Who asked for a travel (05 R92). -/
inductive Requester where
  | allocator | backwashLine | homing | maintenance
deriving DecidableEq, Repr, Inhabited

/-- How a travel ends (05 R92). -/
inductive TravelOutcome where
  | arrived | jammed | positionLost | homeNotFound
deriving DecidableEq, Repr, Inhabited

/-- A travel request (05 R92): `active` is ACTIVE, otherwise it is WAITING. -/
structure TravelRequest where
  target : Stop
  requester : Requester
  active : Bool
deriving DecidableEq, Repr

/-- The two travel slots (05 R95), each free or held by one selector's request. -/
structure Slots where
  first : Option FilterId
  second : Option FilterId
deriving DecidableEq, Repr

/-! ## Dose Controller (07) -/

/-- A set of interlock reasons (07 R132). -/
structure Interlocks where
  noPath : Bool
  noFlow : Bool
  plantStop : Bool
  bulkEmpty : Bool
  unconfirmed : Bool
  notRunning : Bool
deriving DecidableEq, Repr

/-- The state of a Dose Channel (07 R141). -/
inductive DoseState where
  | off | active | interlocked
deriving DecidableEq, Repr, Inhabited

/-- A Dose Channel (07 R132). `stroke` is the stroke timer running, which is the output DOSE high (R138, R139). -/
structure DoseChannel where
  reasons : Interlocks
  accumulator : Nat
  owed : Nat
  pacing : Option Nat
  stroke : Bool
  delivered : Nat
  shortfall : Nat
deriving DecidableEq, Repr

/-! ## Circuit Supervisor (08) -/

/-- What a pool is used for (08 R155). -/
inductive Mode where
  | openPool | closed | superchlorinate
deriving DecidableEq, Repr, Inhabited

/-- A circuit record (08 R155) with the circuit's silence timer and the seconds it was started for (R160). -/
structure CircuitRecord where
  wanted : Nat
  minimum : Nat
  mode : Mode
  demand : Nat
  confirmed : Bool
  attended : Bool
  silence : Option Nat
deriving DecidableEq, Repr

/-! ## Link Ports (09) -/

/-- The response statuses (00 section 4.5, 10 R184). -/
inductive Status where
  | done | accepted | clamped | already | tooLate | refusedRange | refusedState | notYours | refusedUnknown
deriving DecidableEq, Repr, Inhabited

/-- A queued response (09 R173): the echoed kind, the status and the parameters. -/
structure Response where
  kind : Byte
  status : Status
  params : List Byte
deriving DecidableEq, Repr

/-- The role of a frame (09 section 9.1); `idle` before any frame. -/
inductive FrameRole where
  | idle | undecided | fetch | request | discarded
deriving DecidableEq, Repr, Inhabited

/-- The receive and transmit state of a port as the last frame left it (09 section 9.1): its role, the whole bytes
received, the kind, the declared length and the running check of a request, and the bytes shifted out. -/
structure FrameTrace where
  role : FrameRole
  received : Nat
  kind : Byte
  length : Byte
  check : Byte
  out : List Byte
deriving DecidableEq, Repr

/-- A link port (09 section 9.1). -/
structure Port where
  responses : List Response
  notices : NoticeBits
  linkError : Option LinkErrorKind
  interlock : Option Interlocks
  mask : NoticeBits
  frame : FrameTrace
deriving DecidableEq, Repr

/-! ## Plant Control (11) -/

/-- The plant state (11 R198). -/
inductive PlantState where
  | setup | homing | running
deriving DecidableEq, Repr, Inhabited

/-- SURGE_MODE (05 R112). -/
inductive SurgeMode where
  | ignore | slow | slowHold | pause
deriving DecidableEq, Repr, Inhabited

/-- PRIORITY_ORDER: four circuit codes, highest priority first (11 section 11.2). -/
structure Priority where
  (first second third fourth : CircuitId)
deriving DecidableEq, Repr

/-- The settings table (11 section 11.2). -/
structure Settings where
  litresPerFlowPulse : PerCircuit Nat
  flowProofWindow : Nat
  throughputLimit : Nat
  runTimeLimit : Nat
  dpHold : Nat
  wasteCap : Nat
  wasteRate : Nat
  litresPerWastePulse : Nat
  backwashVolume : Nat
  rinseVolume : Nat
  backwashMaxTime : Nat
  rinseMaxTime : Nat
  suspendLimit : Nat
  startSpeed : Nat
  runSpeed : Nat
  speedStep : Nat
  softBand : Nat
  startCreep : Nat
  seatCreep : Nat
  detentSettle : Nat
  surgeMode : SurgeMode
  strokeVolume : PerCircuit Nat
  hypoStrength : Nat
  maxStrokeRate : PerCircuit Nat
  doseCap : Nat
  shockDoseCap : Nat
  silenceLimit : Nat
  priority : Priority
deriving DecidableEq, Repr

/-! ## The whole part -/

/-- What the present event still owes (log entry 9): a pass (01 R14), an evaluation of eligibility (03 R53), an
evaluation of the grant (03 R60); and whether it has made its grant (log entry 10). -/
structure Due where
  pass : Bool
  eval : Bool
  grant : Bool
  granted : Bool
deriving DecidableEq, Repr

/-- The state of the part. `stopActive` is the plant stop condition, which is the debounced PSTOP level (08 R163);
`stopRead` says that its first reading was taken. `free` counts the free values drawn and `pending` holds the
commands that wait, both the model's own. -/
structure State where
  filters : Bank FilterRecord
  pathOpen : PerCircuit Bool
  creditPointer : PerCircuit FilterId
  flow : PerCircuit FlowRecord
  meters : Meters
  queue : List QueueEntry
  line : Line
  waste : Waste
  channels : Bank Channel
  requests : Bank (Option TravelRequest)
  travelQueue : List FilterId
  slots : Slots
  surge : Bool
  doses : PerCircuit DoseChannel
  bulkLow : Bool
  circuits : PerCircuit CircuitRecord
  stopActive : Bool
  stopRead : Bool
  ports : PerPort Port
  plant : PlantState
  settings : Settings
  bankHoming : Bank Bool
  due : Due
  free : Nat
  pending : List Instr
deriving DecidableEq, Repr

/-- No command faults: every fault the manual names is state of the part (01 R9, 09 R172, 10 R184), and the part
goes on. -/
inductive Fault
deriving DecidableEq, Repr

/-- Why a command has no meaning. -/
inductive Refusal where
  /-- Raised by an arm of `exec` for a row that has no meaning yet. Safe: the machine stops. No arm raises it. -/
  | notModelled (mnemonic : String)
deriving DecidableEq, Repr

/-! ## Power-on -/

/-- A filter record at power-on (01 R25, 02 R45), with the DP switch inactive (log entry 16). -/
def FilterRecord.reset : FilterRecord :=
  { state := .unknown, circuit := none, cover := false, releaseOnReturn := false, rinseOwed := false,
    throughput := 0, runTime := 0, dpActive := false, dpTimer := .stopped, grace := 0, faultKind := none,
    backwashCount := 0, lastOutcome := .none, minuteTimer := false, recheckTimer := false }

/-- The Flow Monitor's items at power-on (02 R45). -/
def FlowRecord.reset : FlowRecord :=
  { proofTimer := none, openBin := 0, closedBins := [0, 0, 0, 0, 0, 0, 0, 0, 0] }

/-- Every setting at its default (11 section 11.2, R199). -/
def Settings.default : Settings :=
  { litresPerFlowPulse := PerCircuit.all 10
    flowProofWindow := 10
    throughputLimit := 800
    runTimeLimit := 168
    dpHold := 30
    wasteCap := 40000
    wasteRate := 200
    litresPerWastePulse := 10
    backwashVolume := 8000
    rinseVolume := 2000
    backwashMaxTime := 10
    rinseMaxTime := 5
    suspendLimit := 30
    startSpeed := 100
    runSpeed := 800
    speedStep := 20
    softBand := 100
    startCreep := 4
    seatCreep := 20
    detentSettle := 500
    surgeMode := .slow
    strokeVolume := PerCircuit.all 250
    hypoStrength := 125
    maxStrokeRate := PerCircuit.all 120
    doseCap := 300
    shockDoseCap := 1000
    silenceLimit := 30
    priority := ⟨.A, .B, .C, .D⟩ }

/-- A channel at power-on (05 R115, 06 R117, R131). DESIGN CHOICE, unsafe: the copied travel settings, which the
manual gives no value before the first hand-out, are the default settings (log entry 17). -/
def Channel.reset : Channel :=
  { state := .unreferenced, position := none, speed := 0, residue := 0, creep := 0, dir := none,
    slowLatch := false, overrun := false,
    profile := { startSpeed := 100, runSpeed := 800, speedStep := 20, softBand := 100, startCreep := 4 },
    cwTorque := false, ccwTorque := false, detent := false, home := false, seated := false,
    settleTimer := none, settleStop := none, edge := none, homing := none, search := 0,
    dirOut := false, pulses := 0 }

/-- A Dose Channel at power-on (07 R153); PLANT_STOP stands with the condition (08 R163). -/
def DoseChannel.reset : DoseChannel :=
  { reasons := { noPath := true, noFlow := true, plantStop := true, bulkEmpty := true, unconfirmed := true,
                 notRunning := true },
    accumulator := 0, owed := 0, pacing := none, stroke := false, delivered := 0, shortfall := 0 }

/-- A circuit record at power-on (08 R155). -/
def CircuitRecord.reset : CircuitRecord :=
  { wanted := 0, minimum := 0, mode := .closed, demand := 0, confirmed := false, attended := false,
    silence := none }

/-- A port at power-on (09 R180): idle, with no frame in progress. DESIGN CHOICE, unsafe: the received count, the kind, the
declared length and the running check of no frame are 0 (log entry 34). -/
def Port.reset : Port :=
  { responses := [], notices := 0#24, linkError := none, interlock := none, mask := 0xFFFFFF#24,
    frame := { role := .idle, received := 0, kind := 0#8, length := 0#8, check := 0#8, out := [] } }

/-- The part right after power-on (11 R205 and the reset rules of every chapter), with nothing waiting. -/
def State.reset : State :=
  { filters := Bank.all FilterRecord.reset
    pathOpen := PerCircuit.all false
    creditPointer := PerCircuit.all .f6
    flow := PerCircuit.all FlowRecord.reset
    meters := { circuits := PerCircuit.all false, waste := false }
    queue := []
    line := { available := true, pump := false, clean := none }
    waste := { allowance := 0, lowLow := true, bwStart := false }
    channels := Bank.all Channel.reset
    requests := Bank.all none
    travelQueue := []
    slots := { first := none, second := none }
    surge := false
    doses := PerCircuit.all DoseChannel.reset
    bulkLow := true
    circuits := PerCircuit.all CircuitRecord.reset
    stopActive := true
    stopRead := false
    ports := { circuits := PerCircuit.all Port.reset, plant := Port.reset }
    plant := .setup
    settings := Settings.default
    bankHoming := Bank.all false
    due := { pass := false, eval := false, grant := false, granted := false }
    free := 0
    pending := [] }

end Machine

end Sys2Proof
end

