-- ==== Sys2Proof/Machine/Ops.lean ====
section
/-! DEFINITION. The named operations over the items of State: replacing the item of one filter, circuit, port or
selector, counting filters, marking what an event owes, posting notices and evaluating path and dose states. -/

namespace Sys2Proof.Machine

/-! ## One item of a family -/

/-- Change one filter record. -/
def State.updFilter (s : State) (f : FilterId) (g : FilterRecord → FilterRecord) : State :=
  { s with filters := s.filters.set f (g (s.filters.get f)) }

/-- Change one circuit record. -/
def State.updCircuit (s : State) (c : CircuitId) (g : CircuitRecord → CircuitRecord) : State :=
  { s with circuits := s.circuits.set c (g (s.circuits.get c)) }

/-- Change the Flow Monitor's items of one circuit. -/
def State.updFlow (s : State) (c : CircuitId) (g : FlowRecord → FlowRecord) : State :=
  { s with flow := s.flow.set c (g (s.flow.get c)) }

/-- Change one Dose Channel. -/
def State.updDose (s : State) (c : CircuitId) (g : DoseChannel → DoseChannel) : State :=
  { s with doses := s.doses.set c (g (s.doses.get c)) }

/-- Change one port. -/
def State.updPort (s : State) (p : PortId) (g : Port → Port) : State :=
  { s with ports := s.ports.set p (g (s.ports.get p)) }

/-- Change one Selector Channel. -/
def State.updChannel (s : State) (f : FilterId) (g : Channel → Channel) : State :=
  { s with channels := s.channels.set f (g (s.channels.get f)) }

/-- Replace the travel request of one selector. -/
def State.setRequest (s : State) (f : FilterId) (r : Option TravelRequest) : State :=
  { s with requests := s.requests.set f r }

/-- Replace the Line record. -/
def State.setClean (s : State) (r : Option LineRecord) : State :=
  { s with line := { s.line with clean := r } }

/-- Switch the output BWPUMP (04 R69). -/
def State.setPump (s : State) (on : Bool) : State :=
  { s with line := { s.line with pump := on } }

/-- Replace the Backwash Queue. -/
def State.setQueue (s : State) (q : List QueueEntry) : State :=
  { s with queue := q }

/-! ## The qualified levels of the meter inputs (02 R27) -/

/-- The level of a circuit's flow meter goes high. -/
def State.raiseFlowMeter (s : State) (c : CircuitId) : State :=
  { s with meters := { s.meters with circuits := s.meters.circuits.set c true } }

/-- The level of a circuit's flow meter goes low. -/
def State.lowerFlowMeter (s : State) (c : CircuitId) : State :=
  { s with meters := { s.meters with circuits := s.meters.circuits.set c false } }

/-- The level of the waste meter goes high. -/
def State.raiseWasteMeter (s : State) : State :=
  { s with meters := { s.meters with waste := true } }

/-- The level of the waste meter goes low. -/
def State.lowerWasteMeter (s : State) : State :=
  { s with meters := { s.meters with waste := false } }

/-- A pulse takes the level of its circuit's meter from low to high. Where the last pulse has left it high, the low that R27
requires in between has come first (log entry 3). -/
def State.pulseFlowMeter (s : State) (c : CircuitId) : State :=
  (if s.meters.circuits.get c then s.lowerFlowMeter c else s).raiseFlowMeter c

/-- A waste pulse takes its level from low to high, in the same way (log entry 3). -/
def State.pulseWasteMeter (s : State) : State :=
  (if s.meters.waste then s.lowerWasteMeter else s).raiseWasteMeter

/-- Every meter input stands low. -/
def Meters.allLow (m : Meters) : Bool :=
  !m.waste && allCircuits.all fun c => !m.circuits.get c

/-- The levels that are high go low where their mark says so; a low level stays low. -/
def Meters.fall (m : Meters) (flow : CircuitId → Bool) (waste : Bool) : Meters :=
  let level := fun c => m.circuits.get c && !flow c
  { circuits := ⟨level .A, level .B, level .C, level .D⟩, waste := m.waste && !waste }

/-- The part while it takes no command (log entry 6). FREE VALUE: any of the meter levels that are high may have gone low in
the meantime, by a raw low of 2 ms (02 R27, log entry 3). Nothing else changes. -/
def State.idle (s : State) : State :=
  if s.meters.allLow then s
  else { s with meters := s.meters.fall (Config.flowMeterFalls s.free) (Config.wasteMeterFalls s.free),
                free := s.free + 1 }

/-! ## What the event owes (log entry 9) -/

/-- An allocation pass is due (01 R14). -/
def State.needPass (s : State) : State :=
  { s with due := { s.due with pass := true } }

/-- An evaluation of every entry's eligibility is due (03 R53). -/
def State.needEval (s : State) : State :=
  { s with due := { s.due with eval := true } }

/-- An evaluation of the grant is due (03 R60). -/
def State.needGrant (s : State) : State :=
  { s with due := { s.due with grant := true } }

/-- A filter changed state or assignment: eligibility (03 R53) and grant (03 R60) are due. -/
def State.filterChanged (s : State) : State :=
  s.needEval.needGrant

/-! ## Notices (09 R175) -/

/-- The notices a port may hold (09 R175). -/
inductive Notice where
  | filterJoined | filterLeft | backwashStarted | backwashDone | backwashAborted | backwashNeedsStop | pathLost
  | pathRestored | doseInterlocked | doseSaturated | flowWithoutPath | filterFault | lineUnavailable | tankLow
  | bulkEmpty | strayWasteFlow | homingDone | unattended | requestDropped | linkError | plantStopped
  | plantReleased | restarted
deriving DecidableEq, Repr, Inhabited

/-- The place of a notice in the 24-bit layout (09 R183). -/
def Notice.bit : Notice → Nat
  | .filterJoined => 0
  | .filterLeft => 1
  | .backwashStarted => 2
  | .backwashDone => 3
  | .backwashAborted => 4
  | .backwashNeedsStop => 5
  | .pathLost => 6
  | .pathRestored => 7
  | .doseInterlocked => 8
  | .doseSaturated => 9
  | .flowWithoutPath => 10
  | .filterFault => 11
  | .lineUnavailable => 12
  | .tankLow => 13
  | .bulkEmpty => 14
  | .strayWasteFlow => 15
  | .homingDone => 16
  | .unattended => 17
  | .requestDropped => 18
  | .linkError => 19
  | .plantStopped => 20
  | .plantReleased => 21
  | .restarted => 22

/-- The place of the RESPONSE source in the attention mask (09 R183). -/
def responseBit : Nat := 23

/-- The flag of a notice is set at a port. -/
def Port.hasNotice (q : Port) (n : Notice) : Bool :=
  q.notices.getLsbD n.bit

/-- A port with one more flag set (09 R175). -/
def Port.post (q : Port) (n : Notice) : Port :=
  { q with notices := q.notices ||| BitVec.twoPow 24 n.bit }

/-- Post a notice to one port. -/
def State.post (s : State) (p : PortId) (n : Notice) : State :=
  s.updPort p fun q => q.post n

/-- Post a notice to a circuit's port, if there is a circuit. -/
def State.postTo (s : State) (c : Option CircuitId) (n : Notice) : State :=
  match c with
  | some k => s.post (.circuit k) n
  | none => s

/-- Post a notice to all five ports. -/
def State.postAll (s : State) (n : Notice) : State :=
  allPorts.foldl (fun t p => t.post p n) s

/-- Post LINK_ERROR with its error (09 R172, R175). -/
def State.postLinkError (s : State) (p : PortId) (e : LinkErrorKind) : State :=
  s.updPort p fun q => { q.post .linkError with linkError := some e }

/-- Post DOSE_INTERLOCKED with the reason set of the channel (07 R142, 09 R175). -/
def State.postInterlocked (s : State) (c : CircuitId) (r : Interlocks) : State :=
  s.updPort (.circuit c) fun q => { q.post .doseInterlocked with interlock := some r }

/-! ## Counting filters (01 R13) -/

/-- How many filters' records meet a test. -/
def State.countFilters (s : State) (test : FilterRecord → Bool) : Nat :=
  (allFilters.filter fun f => test (s.filters.get f)).length

/-- The record carries circuit `c`. -/
def FilterRecord.on (r : FilterRecord) (c : CircuitId) : Bool :=
  r.circuit == some c

/-- A SERVICE filter of circuit `c`. -/
def FilterRecord.serves (r : FilterRecord) (c : CircuitId) : Bool :=
  r.state == .service && r.on c

/-- A filter of circuit `c` that is JOINING or SERVICE. -/
def FilterRecord.activeOn (r : FilterRecord) (c : CircuitId) : Bool :=
  (r.state == .service || r.state == .joining) && r.on c

/-- A filter that circuit `c` holds: active, or CLEANING and not marked release_on_return. -/
def FilterRecord.heldBy (r : FilterRecord) (c : CircuitId) : Bool :=
  r.activeOn c || (r.state == .cleaning && !r.releaseOnReturn && r.on c)

/-- service(c) (01 R13). -/
def State.serviceCount (s : State) (c : CircuitId) : Nat :=
  s.countFilters fun r => r.serves c

/-- active(c) (01 R13). -/
def State.activeCount (s : State) (c : CircuitId) : Nat :=
  s.countFilters fun r => r.activeOn c

/-- held(c) (01 R13). -/
def State.heldCount (s : State) (c : CircuitId) : Nat :=
  s.countFilters fun r => r.heldBy c

/-- Flow proof is present exactly while the flow-proof timer runs (02 R30). -/
def FlowRecord.proven (r : FlowRecord) : Bool :=
  r.proofTimer.isSome

/-- The flow proof of a circuit. -/
def State.flowProven (s : State) (c : CircuitId) : Bool :=
  (s.flow.get c).proven

/-! ## Dose Channel states (07 section 7.4) -/

/-- No reason withholds dosing. -/
def Interlocks.isEmpty (r : Interlocks) : Bool :=
  !(r.noPath || r.noFlow || r.plantStop || r.bulkEmpty || r.unconfirmed || r.notRunning)

/-- A reason stands in `new` that does not stand in `old`. -/
def Interlocks.joined (old new : Interlocks) : Bool :=
  (new.noPath && !old.noPath) || (new.noFlow && !old.noFlow) || (new.plantStop && !old.plantStop)
    || (new.bulkEmpty && !old.bulkEmpty) || (new.unconfirmed && !old.unconfirmed)
    || (new.notRunning && !old.notRunning)

/-- The state of a channel, from D and the reason set (07 R141). -/
def doseState (demand : Nat) (r : Interlocks) : DoseState :=
  if demand = 0 then .off else if r.isEmpty then .active else .interlocked

/-- The state of a circuit's channel as it stands. -/
def State.doseStateOf (s : State) (c : CircuitId) : DoseState :=
  doseState (s.circuits.get c).demand (s.doses.get c).reasons

/-- The stroke unit U of a channel (07 R133). -/
def Settings.strokeUnit (t : Settings) (c : CircuitId) : Nat :=
  t.strokeVolume.get c * t.hypoStrength

/-- The accumulator after a change of D and of the reason set: D becoming 0 clears it (07 R134), and so does
UNCONFIRMED joining (07 R148). -/
def DoseChannel.formedAccumulator (d : DoseChannel) (oldDemand newDemand : Nat) (r : Interlocks) : Nat :=
  if (newDemand = 0 && oldDemand ≠ 0) || (r.unconfirmed && !d.reasons.unconfirmed) then 0 else d.accumulator

/-- The owed strokes after a change: every way out of ACTIVE discards them (07 R134, R142). -/
def DoseChannel.formedOwed (d : DoseChannel) (oldDemand newDemand : Nat) (r : Interlocks) : Nat :=
  if doseState newDemand r = .active then d.owed
  else if doseState newDemand r = doseState oldDemand d.reasons then d.owed
  else 0

/-- DOSE_INTERLOCKED is posted: entry to INTERLOCKED, or a reason joining while INTERLOCKED (07 R142). -/
def DoseChannel.posts (d : DoseChannel) (oldDemand newDemand : Nat) (r : Interlocks) : Bool :=
  doseState newDemand r = .interlocked
    && (doseState oldDemand d.reasons ≠ .interlocked || Interlocks.joined d.reasons r)

/-- Circuit `c` takes a new D and a new reason set in one event, and its channel forms its state once (07 R134,
R141, R142, R150). -/
def State.formDose (s : State) (c : CircuitId) (demand : Nat) (r : Interlocks) : State :=
  let d := s.doses.get c
  let old := (s.circuits.get c).demand
  let t := (s.updCircuit c fun k => { k with demand := demand }).updDose c fun d =>
    { d with reasons := r, accumulator := d.formedAccumulator old demand r,
             owed := d.formedOwed old demand r }
  if d.posts old demand r then t.postInterlocked c r else t

/-- Change a channel's reason set, D as it stands. -/
def State.formReasons (s : State) (c : CircuitId) (g : Interlocks → Interlocks) : State :=
  s.formDose c (s.circuits.get c).demand (g (s.doses.get c).reasons)

/-- Change every channel's reason set. -/
def State.formAllReasons (s : State) (g : Interlocks → Interlocks) : State :=
  allCircuits.foldl (fun t c => t.formReasons c g) s

/-- Form the reason UNCONFIRMED of a channel from attendance and flag (07 R148). -/
def State.formUnconfirmed (s : State) (c : CircuitId) : State :=
  s.formReasons c fun r =>
    { r with unconfirmed := !(s.circuits.get c).attended || !(s.circuits.get c).confirmed }

/-! ## Path states (01 R11) -/

/-- A SERVICE filter carries the circuit. -/
def State.hasPath (s : State) (c : CircuitId) : Bool :=
  allFilters.any fun f => (s.filters.get f).serves c

/-- Evaluate a circuit's path state: a change posts PATH_RESTORED or PATH_LOST and sets or clears NO_PATH
(01 R11, 07 R144). -/
def State.evalPath (s : State) (c : CircuitId) : State :=
  let open' := s.hasPath c
  if s.pathOpen.get c = open' then s
  else
    let t := { s with pathOpen := s.pathOpen.set c open' }
    let u := t.post (.circuit c) (if open' then .pathRestored else .pathLost)
    u.formReasons c fun r => { r with noPath := !open' }

/-- Evaluate every circuit's path state. -/
def State.evalPaths (s : State) : State :=
  allCircuits.foldl (fun t c => t.evalPath c) s

/-! ## Plant state (11 R198) -/

/-- A pause condition holds (05 R98): plant stop, or SURGE_MODE PAUSE with the surge input active. -/
def State.pauseCondition (s : State) : Bool :=
  s.stopActive || (s.surge && s.settings.surgeMode == .pause)

/-- Enter RUNNING (11 R203): HOMING_DONE, NOT_RUNNING leaves, and a pass, the eligibility and the grant are due. -/
def State.enterRunning (s : State) : State :=
  let t := { s with plant := .running }
  let u := t.post .plant .homingDone
  (u.formAllReasons fun r => { r with notRunning := false }).needPass.filterChanged

/-- The Filter Table reports the end of a homing travel to Plant Control (11 R203). -/
def State.reportHoming (s : State) (f : FilterId) : State :=
  if s.bankHoming.get f then
    let t := { s with bankHoming := s.bankHoming.set f false }
    if t.bankHoming = Bank.all false then t.enterRunning else t
  else s

end Sys2Proof.Machine
end

