-- ==== Sys2Proof/Machine/Operands.lean ====
section
/-! DEFINITION. The operand forms of the requests (09 R181, 11 section 11.2): circuit, filter and mode codes, fields of
several bytes, and the settings items with their codes, ranges and values. -/

namespace Sys2Proof.Machine

/-! ## Codes (09 R181) -/

/-- The filter that a code names: 1 to 6. -/
def filterOf (b : Byte) : Option FilterId :=
  match b.toNat with
  | 1 => some .f1
  | 2 => some .f2
  | 3 => some .f3
  | 4 => some .f4
  | 5 => some .f5
  | 6 => some .f6
  | _ => none

/-- The circuit that a code names: 1 to 4. Code 0, "absent", names none (10 R187). -/
def circuitOf (b : Byte) : Option CircuitId :=
  match b.toNat with
  | 1 => some .A
  | 2 => some .B
  | 3 => some .C
  | 4 => some .D
  | _ => none

/-- The mode that a code names: 1 OPEN, 2 CLOSED, 3 SUPERCHLORINATE. -/
def modeOf (b : Byte) : Option Mode :=
  match b.toNat with
  | 1 => some .openPool
  | 2 => some .closed
  | 3 => some .superchlorinate
  | _ => none

/-- The number of a filter. -/
def filterNumber : FilterId → Nat
  | .f1 => 1
  | .f2 => 2
  | .f3 => 3
  | .f4 => 4
  | .f5 => 5
  | .f6 => 6

/-- The code of a circuit. -/
def circuitNumber : CircuitId → Nat
  | .A => 1
  | .B => 2
  | .C => 3
  | .D => 4

/-! ## Fields of several bytes, most significant byte first (00 section 4.3) -/

/-- The number that a field's bytes hold. -/
def bytesValue (bs : List Byte) : Nat :=
  bs.foldl (fun n b => n * 256 + b.toNat) 0

/-- A number as a field of `k` bytes. -/
def valueBytes : Nat → Nat → List Byte
  | 0, _ => []
  | k + 1, n => valueBytes k (n / 256) ++ [BitVec.ofNat 8 n]

/-! ## Settings items (11 section 11.2) -/

/-- The items of the settings table. -/
inductive Item where
  | litresPerFlowPulse (c : CircuitId)
  | flowProofWindow | throughputLimit | runTimeLimit | dpHold
  | wasteCap | wasteRate | litresPerWastePulse | backwashVolume | rinseVolume | backwashMaxTime | rinseMaxTime
  | suspendLimit
  | startSpeed | runSpeed | speedStep | softBand | startCreep | seatCreep | detentSettle | surgeMode
  | strokeVolume (c : CircuitId)
  | hypoStrength
  | maxStrokeRate (c : CircuitId)
  | doseCap | shockDoseCap | silenceLimit | priorityOrder
deriving DecidableEq, Repr, Inhabited

/-- Every item, in the order of the table. -/
def allItems : List Item :=
  allCircuits.map Item.litresPerFlowPulse
    ++ [.flowProofWindow, .throughputLimit, .runTimeLimit, .dpHold, .wasteCap, .wasteRate, .litresPerWastePulse,
        .backwashVolume, .rinseVolume, .backwashMaxTime, .rinseMaxTime, .suspendLimit, .startSpeed, .runSpeed,
        .speedStep, .softBand, .startCreep, .seatCreep, .detentSettle, .surgeMode]
    ++ allCircuits.map Item.strokeVolume ++ [.hypoStrength] ++ allCircuits.map Item.maxStrokeRate
    ++ [.doseCap, .shockDoseCap, .silenceLimit, .priorityOrder]

/-- The code of an item. The items that are held for each circuit have four codes in a row. -/
def Item.code : Item → Nat
  | .litresPerFlowPulse c => 0x00 + circuitNumber c
  | .flowProofWindow => 0x05
  | .throughputLimit => 0x10
  | .runTimeLimit => 0x11
  | .dpHold => 0x12
  | .wasteCap => 0x20
  | .wasteRate => 0x21
  | .litresPerWastePulse => 0x22
  | .backwashVolume => 0x23
  | .rinseVolume => 0x24
  | .backwashMaxTime => 0x25
  | .rinseMaxTime => 0x26
  | .suspendLimit => 0x27
  | .startSpeed => 0x30
  | .runSpeed => 0x31
  | .speedStep => 0x32
  | .softBand => 0x33
  | .startCreep => 0x34
  | .seatCreep => 0x35
  | .detentSettle => 0x36
  | .surgeMode => 0x37
  | .strokeVolume c => 0x3F + circuitNumber c
  | .hypoStrength => 0x44
  | .maxStrokeRate c => 0x44 + circuitNumber c
  | .doseCap => 0x49
  | .shockDoseCap => 0x4A
  | .silenceLimit => 0x50
  | .priorityOrder => 0x60

/-- The item that a code names, if it is in the table. -/
def itemOf (b : Byte) : Option Item :=
  allItems.find? fun i => i.code == b.toNat

/-- The items that may be written in SETUP alone. -/
def Item.setupOnly (i : Item) : Bool :=
  i == .seatCreep || i == .priorityOrder

/-- The code of a surge mode (09 R181). -/
def SurgeMode.code : SurgeMode → Nat
  | .ignore => 0
  | .slow => 1
  | .slowHold => 2
  | .pause => 3

/-- The surge mode that a code names. -/
def surgeModeOf : Nat → Option SurgeMode
  | 0 => some .ignore
  | 1 => some .slow
  | 2 => some .slowHold
  | 3 => some .pause
  | _ => none

/-- PRIORITY_ORDER as its four circuit codes (09 R181). -/
def Priority.code (p : Priority) : Nat :=
  ((circuitNumber p.first * 256 + circuitNumber p.second) * 256 + circuitNumber p.third) * 256
    + circuitNumber p.fourth

/-- The order that four circuit codes give, each of them 1 to 4. -/
def priorityOf (v : Nat) : Option Priority :=
  match circuitOf (BitVec.ofNat 8 (v / 16777216)), circuitOf (BitVec.ofNat 8 (v / 65536)),
        circuitOf (BitVec.ofNat 8 (v / 256)), circuitOf (BitVec.ofNat 8 v) with
  | some a, some b, some c, some d => some ⟨a, b, c, d⟩
  | _, _, _, _ => none

/-- A number lies between two bounds. -/
def within (low high v : Nat) : Bool :=
  low ≤ v && v ≤ high

/-- A value lies in an item's own range (11 R200, check 3). -/
def Item.inRange (i : Item) (v : Nat) : Bool :=
  match i with
  | .litresPerFlowPulse _ => within 1 100 v
  | .flowProofWindow => within 2 60 v
  | .throughputLimit => within 10 9999 v
  | .runTimeLimit => within 1 336 v
  | .dpHold => within 1 120 v
  | .wasteCap => within 1000 250000 v
  | .wasteRate => within 1 5000 v
  | .litresPerWastePulse => within 1 100 v
  | .backwashVolume => within 500 50000 v
  | .rinseVolume => within 100 20000 v
  | .backwashMaxTime => within 1 30 v
  | .rinseMaxTime => within 1 15 v
  | .suspendLimit => within 5 120 v
  | .startSpeed => within 10 400 v
  | .runSpeed => within 10 1600 v
  | .speedStep => within 1 100 v
  | .softBand => within 0 795 v
  | .startCreep => within 0 15 v
  | .seatCreep => within 0 60 v
  | .detentSettle => within 100 2000 v
  | .surgeMode => within 0 3 v
  | .strokeVolume _ => within 1 2000 v
  | .hypoStrength => within 1 200 v
  | .maxStrokeRate _ => within 1 300 v
  | .doseCap => within 0 1000 v
  | .shockDoseCap => within 0 1000 v
  | .silenceLimit => within 5 120 v
  | .priorityOrder => (priorityOf v).isSome

/-- The stored value of an item, as its four bytes carry it. -/
def Settings.read (t : Settings) (i : Item) : Nat :=
  match i with
  | .litresPerFlowPulse c => t.litresPerFlowPulse.get c
  | .flowProofWindow => t.flowProofWindow
  | .throughputLimit => t.throughputLimit
  | .runTimeLimit => t.runTimeLimit
  | .dpHold => t.dpHold
  | .wasteCap => t.wasteCap
  | .wasteRate => t.wasteRate
  | .litresPerWastePulse => t.litresPerWastePulse
  | .backwashVolume => t.backwashVolume
  | .rinseVolume => t.rinseVolume
  | .backwashMaxTime => t.backwashMaxTime
  | .rinseMaxTime => t.rinseMaxTime
  | .suspendLimit => t.suspendLimit
  | .startSpeed => t.startSpeed
  | .runSpeed => t.runSpeed
  | .speedStep => t.speedStep
  | .softBand => t.softBand
  | .startCreep => t.startCreep
  | .seatCreep => t.seatCreep
  | .detentSettle => t.detentSettle
  | .surgeMode => t.surgeMode.code
  | .strokeVolume c => t.strokeVolume.get c
  | .hypoStrength => t.hypoStrength
  | .maxStrokeRate c => t.maxStrokeRate.get c
  | .doseCap => t.doseCap
  | .shockDoseCap => t.shockDoseCap
  | .silenceLimit => t.silenceLimit
  | .priorityOrder => t.priority.code

/-- The settings with one item stored. A value outside the item's range is never stored (11 R200). -/
def Settings.write (t : Settings) (i : Item) (v : Nat) : Settings :=
  match i with
  | .litresPerFlowPulse c => { t with litresPerFlowPulse := t.litresPerFlowPulse.set c v }
  | .flowProofWindow => { t with flowProofWindow := v }
  | .throughputLimit => { t with throughputLimit := v }
  | .runTimeLimit => { t with runTimeLimit := v }
  | .dpHold => { t with dpHold := v }
  | .wasteCap => { t with wasteCap := v }
  | .wasteRate => { t with wasteRate := v }
  | .litresPerWastePulse => { t with litresPerWastePulse := v }
  | .backwashVolume => { t with backwashVolume := v }
  | .rinseVolume => { t with rinseVolume := v }
  | .backwashMaxTime => { t with backwashMaxTime := v }
  | .rinseMaxTime => { t with rinseMaxTime := v }
  | .suspendLimit => { t with suspendLimit := v }
  | .startSpeed => { t with startSpeed := v }
  | .runSpeed => { t with runSpeed := v }
  | .speedStep => { t with speedStep := v }
  | .softBand => { t with softBand := v }
  | .startCreep => { t with startCreep := v }
  | .seatCreep => { t with seatCreep := v }
  | .detentSettle => { t with detentSettle := v }
  | .surgeMode => { t with surgeMode := (surgeModeOf v).getD t.surgeMode }
  | .strokeVolume c => { t with strokeVolume := t.strokeVolume.set c v }
  | .hypoStrength => { t with hypoStrength := v }
  | .maxStrokeRate c => { t with maxStrokeRate := t.maxStrokeRate.set c v }
  | .doseCap => { t with doseCap := v }
  | .shockDoseCap => { t with shockDoseCap := v }
  | .silenceLimit => { t with silenceLimit := v }
  | .priorityOrder => { t with priority := (priorityOf v).getD t.priority }

/-- PRIORITY_ORDER as a list, highest priority first (01 R13). -/
def Priority.toList (p : Priority) : List CircuitId :=
  [p.first, p.second, p.third, p.fourth]

/-- The five cross-checks (11 R200). -/
def Settings.crossChecked (t : Settings) : Bool :=
  t.startSpeed ≤ t.runSpeed && 2 * t.softBand ≤ t.runSpeed - t.startSpeed
    && t.backwashVolume + t.rinseVolume ≤ t.wasteCap && t.doseCap ≤ t.shockDoseCap
    && allCircuits.all fun c => t.priority.toList.contains c

end Sys2Proof.Machine
end

