-- ==== Sys2Proof/Machine/Queue.lean ====
section
/-! DEFINITION. The Backwash Queue (03): eligibility, filing and merging, removal, and the evaluation of every entry. -/

namespace Sys2Proof.Machine

/-- The two sets of reasons together. -/
def Reasons.union (a b : Reasons) : Reasons :=
  { throughput := a.throughput || b.throughput, runTime := a.runTime || b.runTime,
    pressure := a.pressure || b.pressure, requested := a.requested || b.requested,
    retry := a.retry || b.retry }

/-- An entry is urgent when PRESSURE is among its reasons (03 R47). -/
def QueueEntry.urgent (e : QueueEntry) : Bool :=
  e.reasons.pressure

/-- The floor of a circuit (03 R52). -/
def CircuitRecord.floor (r : CircuitRecord) : Nat :=
  if r.attended && r.mode != .openPool then 0 else r.minimum

/-- The eligibility of an entry for filter `f`, the first row of the table that applies (03 R51). The queue law
(03 R47) forbids the states of the last line. -/
def State.eligibilityOf (s : State) (f : FilterId) : Eligibility :=
  let r := s.filters.get f
  match r.state with
  | .joining | .leaving => .inTransit
  | .standby => .eligible
  | .service =>
    match r.circuit with
    | none => .eligible
    | some c =>
      if s.serviceCount c < (s.circuits.get c).floor + 1 then .floorBlocked
      else if s.serviceCount c = 1 && s.flowProven c then .needsStop
      else .eligible
  | .unknown | .homing | .cleaning | .parking | .outOfUse | .fault => .inTransit

/-- The entry of a filter, if the queue holds one. -/
def State.entryOf (s : State) (f : FilterId) : Option QueueEntry :=
  s.queue.find? fun e => e.filter == f

/-- The states in which the queue law allows an entry (03 R47). -/
def FilterState.mayQueue : FilterState → Bool
  | .service | .joining | .leaving | .standby => true
  | .unknown | .homing | .cleaning | .parking | .outOfUse | .fault => false

/-- The queue with an entry put at the last place of its group (03 R48). -/
def insertEntry (q : List QueueEntry) (e : QueueEntry) : List QueueEntry :=
  if e.urgent then q.takeWhile QueueEntry.urgent ++ e :: q.dropWhile QueueEntry.urgent else q ++ [e]

/-- The queue without a filter's entry (03 R50). -/
def removeEntry (q : List QueueEntry) (f : FilterId) : List QueueEntry :=
  q.filter fun e => e.filter != f

/-- The queue with a filter's entry replaced in its place. -/
def replaceEntry (q : List QueueEntry) (e : QueueEntry) : List QueueEntry :=
  q.map fun x => if x.filter == e.filter then e else x

/-- A value of eligibility acts when it is taken: FLOOR_BLOCKED is a pass trigger (03 R53), NEEDS_STOP posts
BACKWASH_NEEDS_STOP to the port of the filter's circuit (03 R54). -/
def State.takeEligibility (s : State) (f : FilterId) (v : Eligibility) : State :=
  match v with
  | .floorBlocked => s.needPass
  | .needsStop => s.postTo (s.filters.get f).circuit .backwashNeedsStop
  | .eligible | .inTransit => s

/-- File a filter with a set of reasons (03 R48), or merge them into its entry (03 R49). -/
def State.fileEntry (s : State) (f : FilterId) (reasons : Reasons) : State :=
  if (s.filters.get f).state.mayQueue then
    match s.entryOf f with
    | some e =>
      let e' := { e with reasons := e.reasons.union reasons }
      if e'.urgent && !e.urgent then
        (s.setQueue (insertEntry (removeEntry s.queue f) e')).needEval.needGrant
      else
        (s.setQueue (replaceEntry s.queue e')).needEval
    | none =>
      let v := s.eligibilityOf f
      let t := s.setQueue (insertEntry s.queue { filter := f, reasons := reasons, eligibility := v })
      (t.takeEligibility f v).needEval.needGrant
  else s

/-- Remove a filter's entry other than by a grant: a pass trigger (03 R50, 01 R14). -/
def State.dropEntry (s : State) (f : FilterId) : State :=
  if (s.entryOf f).isSome then
    (s.setQueue (removeEntry s.queue f)).needPass.filterChanged
  else s

/-- A SERVICE filter of circuit `c` has an entry that was last evaluated FLOOR_BLOCKED (03 R51; log entry 11). -/
def State.floorBlocked (s : State) (c : CircuitId) : Bool :=
  s.queue.any fun e => e.eligibility == .floorBlocked && (s.filters.get e.filter).serves c

/-- One entry evaluated again: a changed value is recorded and acts (03 R53). -/
def State.evaluateEntry (s : State) (f : FilterId) : State :=
  match s.entryOf f with
  | none => s
  | some e =>
    let v := s.eligibilityOf f
    if e.eligibility = v then s
    else
      ((s.setQueue (replaceEntry s.queue { e with eligibility := v })).takeEligibility f v).needGrant

/-- Every entry evaluated again, head first (03 R53). -/
def State.evaluateQueue (s : State) : State :=
  (s.queue.map QueueEntry.filter).foldl (fun t f => t.evaluateEntry f) s

end Sys2Proof.Machine
end

