-- ==== Sys2Proof/Machine/Table.lean ====
section
/-! DEFINITION. The Filter Table (01): transitions of a filter's state, entry to FAULT, load triggers (02 R40), and what
the table does with the outcome of a travel. -/

namespace Sys2Proof.Machine

/-- A filter record taking a new state. Entry to SERVICE starts its minute and re-check timers (02 R38, R39), and its
DP hold timer if the switch is active (02 R41); in any other state the three are stopped. -/
def FilterRecord.enter (r : FilterRecord) (state : FilterState) (dpHold : Nat) : FilterRecord :=
  if state = .service then
    { r with state := .service, minuteTimer := true, recheckTimer := true,
             dpTimer := if r.dpActive then .running dpHold else .stopped }
  else { r with state := state, minuteTimer := false, recheckTimer := false, dpTimer := .stopped }

/-- A filter takes a new state, its record otherwise changed by `g`. -/
def State.moveFilter (s : State) (f : FilterId) (state : FilterState) (g : FilterRecord → FilterRecord) : State :=
  (s.updFilter f fun r => (g r).enter state s.settings.dpHold).filterChanged

/-- The THROUGHPUT limit in litres (02 R40). -/
def Settings.throughputLitres (t : Settings) : Nat :=
  t.throughputLimit * 1000

/-- The RUN_TIME limit in minutes (02 R40). -/
def Settings.runTimeMinutes (t : Settings) : Nat :=
  t.runTimeLimit * 60

/-- Raise the THROUGHPUT trigger if the counter stands at or above its limit (02 R40). -/
def State.checkThroughput (s : State) (f : FilterId) : State :=
  if s.settings.throughputLitres ≤ (s.filters.get f).throughput then s.fileEntry f { throughput := true } else s

/-- Raise the RUN_TIME trigger if the counter stands at or above its limit (02 R40). -/
def State.checkRunTime (s : State) (f : FilterId) : State :=
  if s.settings.runTimeMinutes ≤ (s.filters.get f).runTime then s.fileEntry f { runTime := true } else s

/-- Both comparisons, as made at entry to SERVICE and at each re-check (02 R39, R40). -/
def State.checkLoads (s : State) (f : FilterId) : State :=
  (s.checkThroughput f).checkRunTime f

/-- The cover filters of a circuit lose their mark (01 R9, R20). -/
def State.loseCover (s : State) (c : Option CircuitId) : State :=
  match c with
  | none => s
  | some k => allFilters.foldl (fun t f => t.updFilter f fun r => { r with cover := r.cover && !r.on k }) s

/-- The fault of the filter takes its circuit's cover with it: the filter was CLEANING, or its entry was blocked only
by the floor (01 R9, R20). -/
def State.faultEndsCover (s : State) (f : FilterId) : Bool :=
  (s.filters.get f).state == .cleaning ||
    (match s.entryOf f with
     | some e => e.eligibility == .floorBlocked
     | none => false)

/-- A fault record: kind set, assignment and marks cleared, rinse owed set by UNRINSED (01 R9). -/
def FilterRecord.faulted (r : FilterRecord) (kind : FaultKind) : FilterRecord :=
  { r with circuit := none, cover := false, releaseOnReturn := false, faultKind := some kind,
           rinseOwed := r.rinseOwed || kind == .unrinsed }

/-- A filter enters FAULT (01 R9). A fault of a filter already in FAULT changes nothing. -/
def State.faultFilter (s : State) (f : FilterId) (kind : FaultKind) : State :=
  let r := s.filters.get f
  if r.state = .fault then s
  else
    let t := s.moveFilter f .fault fun r => r.faulted kind
    let u := if s.faultEndsCover f then t.loseCover r.circuit else t
    let v := u.setQueue (removeEntry u.queue f)
    ((v.post .plant .filterFault).postTo r.circuit .filterFault).needPass

/-- The fault kind a travel outcome names, if it is a fault (01 R9). -/
def TravelOutcome.fault : TravelOutcome → Option FaultKind
  | .arrived => none
  | .jammed => some .jammed
  | .positionLost => some .positionLost
  | .homeNotFound => some .homeNotFound

/-- A JOINING filter arrives (01 R5): SERVICE, FILTER_JOINED, the load triggers (02 R40) and a pass. -/
def State.arriveJoining (s : State) (f : FilterId) : State :=
  let t := (s.moveFilter f .service id).postTo (s.filters.get f).circuit .filterJoined
  (t.checkLoads f).needPass

/-- A HOMING filter arrives (01 R7): STANDBY, a RETRY filing if it owes a rinse, a pass, and the report to Plant
Control (11 R203). -/
def State.arriveHoming (s : State) (f : FilterId) : State :=
  let t := s.moveFilter f .standby id
  let u := if (s.filters.get f).rinseOwed then t.fileEntry f { retry := true } else t
  u.needPass.reportHoming f

/-- A filter in travel arrives (01 R5, R6, R7). -/
def State.filterArrived (s : State) (f : FilterId) : State :=
  match (s.filters.get f).state with
  | .joining => s.arriveJoining f
  | .leaving => (s.moveFilter f .standby id).needPass
  | .parking => s.moveFilter f .outOfUse id
  | .homing => s.arriveHoming f
  | .unknown | .standby | .service | .cleaning | .outOfUse | .fault => s

/-- The Filter Table takes the outcome of a travel (01 R5, R6, R7). The end of a homing is reported to Plant Control
whatever it is (01 R7). -/
def State.filterOutcome (s : State) (f : FilterId) (o : TravelOutcome) : State :=
  match o.fault with
  | none => s.filterArrived f
  | some kind =>
    let t := s.faultFilter f kind
    if (s.filters.get f).state = .homing then t.reportHoming f else t

/-- The Filter Table takes a detent loss at rest (01 R10). -/
def State.filterDetentLoss (s : State) (f : FilterId) : State :=
  match (s.filters.get f).state with
  | .service | .standby => s.faultFilter f .positionLost
  | .unknown | .homing | .joining | .leaving | .cleaning | .parking | .outOfUse | .fault => s

/-- The filter comes back from its clean to SERVICE on its circuit (01 R8). -/
def State.returnToCircuit (s : State) (f : FilterId) : State :=
  (s.moveFilter f .service fun r => { r with releaseOnReturn := false }).postTo (s.filters.get f).circuit
    .filterJoined

/-- The filter comes back from its clean to stop 0 (01 R8): an assignment still held ends with FILTER_LEFT. -/
def State.returnToStandby (s : State) (f : FilterId) : State :=
  (s.moveFilter f .standby fun r =>
    { r with circuit := none, cover := false, releaseOnReturn := false }).postTo (s.filters.get f).circuit
    .filterLeft

end Sys2Proof.Machine
end

