-- ==== Sys2Proof/Machine/Clean.lean ====
section
/-! DEFINITION. The Backwash Line record between its travels (04): how a run phase begins or waits, how a clean ends, and
what the Line does with the outcome of a travel. Nothing here asks for a travel. -/

namespace Sys2Proof.Machine

/-- The return target of the cleaning filter (04 R75). -/
def State.returnTargetOf (s : State) (r : LineRecord) : Stop :=
  if r.exitUnrinsed then .closed
  else
    match (s.filters.get r.filter).circuit with
    | none => .closed
    | some c => if (s.filters.get r.filter).releaseOnReturn then .closed else .circuit c

/-- The volume that ends a run phase (04 R71, R72). -/
def Settings.phaseVolume (t : Settings) (p : Phase) : Nat :=
  if p = .backwashRun then t.backwashVolume else t.rinseVolume

/-- The minutes a run phase may last (04 R71). -/
def Settings.phaseMinutes (t : Settings) (p : Phase) : Nat :=
  if p = .backwashRun then t.backwashMaxTime else t.rinseMaxTime

/-- A run phase begins (04 R71). -/
def State.beginRun (s : State) (r : LineRecord) (p : Phase) : State :=
  (s.setClean (some { r with phase := p, heldPhase := none, counted := 0,
                             phaseTimer := .running (s.settings.phaseMinutes p), flowTimer := .running,
                             suspendTimer := none })).setPump true

/-- A run phase waits for water before it begins (04 R70, R74). -/
def State.holdRun (s : State) (r : LineRecord) (p : Phase) : State :=
  s.setClean (some { r with phase := .suspended, heldPhase := some p, phaseTimer := .stopped, flowTimer := .stopped,
                            suspendTimer := some s.settings.suspendLimit })

/-- The selector has arrived at the stop of a run phase (04 R70, R74). -/
def State.arriveRun (s : State) (r : LineRecord) (p : Phase) : State :=
  if s.waste.lowLow then s.holdRun r p else s.beginRun r p

/-- The outcome a clean reports when it ends early (04 R78, R87). -/
def CleanOutcome.orAborted (o : CleanOutcome) : CleanOutcome :=
  if o = .none then .aborted else o

/-- The outcomes that count as a clean (04 R78). -/
def CleanOutcome.completed (o : CleanOutcome) : Bool :=
  o == .complete || o == .short

/-- The filter record as the outcome of a clean sets it (04 R78, 02 R43). -/
def FilterRecord.afterClean (r : FilterRecord) (o : CleanOutcome) : FilterRecord :=
  if o.completed then
    { r with throughput := 0, runTime := 0, grace := Config.graceLitres,
             backwashCount := min (r.backwashCount + 1) Config.count16Max, lastOutcome := o }
  else { r with lastOutcome := o }

/-- The record is discarded and the Line is IDLE: a pass, the eligibility and the grant follow (04 R78, R87). -/
def State.lineIdle (s : State) : State :=
  (s.setClean none).needPass.filterChanged

/-- A clean ends in a fault (04 R87). -/
def State.faultClean (s : State) (r : LineRecord) (kind : FaultKind) : State :=
  let t := (s.setPump false).updFilter r.filter fun x => x.afterClean r.outcome.orAborted
  ((t.faultFilter r.filter kind).postTo r.startCircuit .backwashAborted).lineIdle

/-- ARRIVED in RETURNING with exit fault UNRINSED (04 R78, step 1). -/
def State.endUnrinsed (s : State) (r : LineRecord) : State :=
  let t := s.updFilter r.filter fun x => { x with lastOutcome := r.outcome.orAborted }
  ((t.faultFilter r.filter .unrinsed).postTo r.startCircuit .backwashAborted).lineIdle

/-- The Line returns its filter to the Filter Table (01 R8), by the return target. -/
def State.returnFilter (s : State) (r : LineRecord) : State :=
  if r.returnTarget = .closed then s.returnToStandby r.filter else s.returnToCircuit r.filter

/-- The load triggers of a filter that has just entered SERVICE (02 R40). -/
def State.checkLoadsInService (s : State) (f : FilterId) : State :=
  if (s.filters.get f).state = .service then s.checkLoads f else s

/-- ARRIVED in RETURNING with no exit fault (04 R78, steps 2 to 4). -/
def State.endReturned (s : State) (r : LineRecord) : State :=
  let t := (s.updFilter r.filter fun x => x.afterClean r.outcome).returnFilter r
  let u := if r.requeue then t.fileEntry r.filter { r.reasons with retry := true } else t
  let v := u.checkLoadsInService r.filter
  (v.postTo r.startCircuit (if r.outcome.completed then .backwashDone else .backwashAborted)).lineIdle

/-- ARRIVED in RETURNING ends the clean (04 R78). -/
def State.endClean (s : State) (r : LineRecord) : State :=
  if r.exitUnrinsed then s.endUnrinsed r else s.endReturned r

/-- The Line takes an ARRIVED by its phase (04 R68, R70, R74, R78, R82). -/
def State.lineArrived (s : State) (r : LineRecord) : State :=
  match r.phase with
  | .toBackwash => s.arriveRun r .backwashRun
  | .toRinse => s.arriveRun r .rinseRun
  | .returning => s.endClean r
  | .stopHeld => if r.heldPhase = some .returning then s.endClean r else s
  | .backwashRun | .rinseRun | .suspended => s

/-- The Line takes the outcome of its travel (04 R68, R88). -/
def State.lineOutcome (s : State) (f : FilterId) (o : TravelOutcome) : State :=
  match s.line.clean with
  | none => s
  | some r =>
    if r.filter = f then
      match o.fault with
      | none => s.lineArrived r
      | some kind => s.faultClean r kind
    else s

/-- The Line takes a detent loss at rest of its filter (04 R89). -/
def State.lineDetentLoss (s : State) (f : FilterId) : State :=
  match s.line.clean with
  | none => s
  | some r => if r.filter = f then s.faultClean r .positionLost else s

/-- An outcome goes to its requester (05 R92, 06 R130). -/
def State.deliver (s : State) (q : Requester) (f : FilterId) (o : TravelOutcome) : State :=
  match q with
  | .backwashLine => s.lineOutcome f o
  | .allocator | .maintenance | .homing => s.filterOutcome f o

end Sys2Proof.Machine
end

