-- ==== Sys2Proof/Machine/Profile.lean ====
section
/-! DEFINITION. A single Selector Channel (05, 06): distances, the choice of direction, the speed profile with its
braking estimate, the emission of steps and the home flag drift. -/

namespace Sys2Proof.Machine

/-- The number of a stop (00 section 4.1). -/
def Stop.number : Stop → Nat
  | .closed => 0
  | .circuit .A => 1
  | .circuit .B => 2
  | .circuit .C => 3
  | .circuit .D => 4
  | .backwash => 5
  | .rinse => 6
  | .park => 7

/-- The position of a stop (00 section 4.1). -/
def Stop.position (k : Stop) : Nat :=
  200 * k.number

/-- The steps from one position to another in one direction (05 R99, R102). -/
def distance (d : Dir) (start target : Nat) : Nat :=
  match d with
  | .cw => (target + Config.revolution - start % Config.revolution) % Config.revolution
  | .ccw => (start + Config.revolution - target % Config.revolution) % Config.revolution

/-- The position `n` steps on in one direction (05 R97). -/
def advance (d : Dir) (start n : Nat) : Nat :=
  match d with
  | .cw => (start + n) % Config.revolution
  | .ccw => (start + Config.revolution - n % Config.revolution) % Config.revolution

/-- The other direction. -/
def otherDir : Dir → Dir
  | .cw => .ccw
  | .ccw => .cw

/-- The debounced torque input of a direction. -/
def Channel.torque (ch : Channel) : Dir → Bool
  | .cw => ch.cwTorque
  | .ccw => ch.ccwTorque

/-- The shorter way round, CW where both are 800 steps (05 R99). DESIGN CHOICE: CW too where both are 0, at a start on the
target itself, for which R99 names no way (log entry 35). -/
def shorterWay (start target : Nat) : Dir :=
  if distance .cw start target ≤ distance .ccw start target then .cw else .ccw

/-- The direction of a start, or none where both torque inputs are active (05 R99). -/
def Channel.chooseDir (ch : Channel) (start target : Nat) : Option Dir :=
  let d := shorterWay start target
  if !ch.torque d then some d else if !ch.torque (otherDir d) then some (otherDir d) else none

/-! ## The speed profile (05 section 5.4) -/

/-- The change amount inc(V) = dec(V) (05 R103). -/
def Profile.amount (p : Profile) (v : Nat) : Nat :=
  if v ≤ p.startSpeed + p.softBand || p.runSpeed < v + p.softBand then max 1 (p.speedStep / 2) else p.speedStep

/-- The speed after one braking change (05 R104, R105). -/
def Profile.brake (p : Profile) (v : Nat) : Nat :=
  max (v - p.amount v) p.startSpeed

/-- The sum of the deceleration sequence from V, over at most `n` terms (05 R104). -/
def Profile.brakeSum (p : Profile) : Nat → Nat → Nat
  | 0, _ => 0
  | n + 1, v => if v ≤ p.startSpeed then 0 else p.brake v + p.brakeSum n (p.brake v)

/-- The braking estimate B(V) with SEAT_CREEP C (05 R104). Each term is at least one lower than the last, so V − Vs
terms are enough. -/
def Profile.brakingSteps (p : Profile) (seatCreep v : Nat) : Nat :=
  seatCreep + (p.brakeSum (v - p.startSpeed) v + 99) / 100

/-- The speed after an interval's update (05 R105): `remaining` is R, `slowed` says that the surge input slows the
channel. -/
def Channel.nextSpeed (ch : Channel) (seatCreep remaining : Nat) (slowed : Bool) : Nat :=
  let p := ch.profile
  let b := p.brakingSteps seatCreep ch.speed
  if 0 < ch.creep then p.startSpeed
  else if p.startSpeed < ch.speed && (remaining ≤ b || slowed) then p.brake ch.speed
  else if b < remaining && ch.speed < p.runSpeed && !ch.slowLatch && !slowed then
    min (ch.speed + p.amount ch.speed) p.runSpeed
  else ch.speed

/-! ## Emission (05 R106, R114) -/

/-- The channel at speed V = `v` emits `n` steps and keeps the residue `residue`. The first step clears the seated mark
(06 R117); a step counts in the home edge record (06 R128). -/
def Channel.emit (ch : Channel) (d : Dir) (v n residue : Nat) : Channel :=
  { ch with
    speed := v, residue := residue,
    position := ch.position.map fun p => advance d p n,
    creep := ch.creep - n,
    seated := ch.seated && n = 0,
    edge := ch.edge.map fun e => { e with steps := e.steps + n },
    pulses := ch.pulses + n }

/-- The steps an interval at speed V = `v` holds before any cap (05 R106). -/
def Channel.dueSteps (ch : Channel) (v : Nat) : Nat :=
  (v + ch.residue) / 100

/-- The residue an interval at speed V = `v` leaves (05 R106). -/
def Channel.dueResidue (ch : Channel) (v : Nat) : Nat :=
  (v + ch.residue) % 100

/-- Stepping begins (05 R101): direction recorded and DIR driven, V at START_SPEED, F at 0. -/
def Channel.begin (ch : Channel) (d : Dir) (creep : Nat) : Channel :=
  { ch with state := .moving, dir := some d, dirOut := d == .cw, speed := ch.profile.startSpeed, residue := 0,
            creep := creep, overrun := false }

/-- The channel stands still in a state. -/
def Channel.halt (ch : Channel) (state : ChannelState) : Channel :=
  { ch with state := state, speed := 0, residue := 0 }

/-- A pause: stopped where it stands, the overrun mark cleared (05 R110, R113). -/
def Channel.pause (ch : Channel) : Channel :=
  { ch.halt .paused with overrun := false }

/-- The direction the channel turns. -/
def Channel.turning (ch : Channel) : Dir :=
  ch.dir.getD .cw

/-! ## Home flag drift (06 R124) -/

/-- The place of the home flag's rising edge in a direction (06 R123). -/
def edgePlace : Dir → Nat
  | .cw => 1595
  | .ccw => 5

/-- The drift, between −799 and 800 (06 R124). -/
def drift (d : Dir) (recorded : Nat) : Int :=
  let x := ((edgePlace d : Int) - recorded) % 1600
  if 800 < x then x - 1600 else x

/-- The count corrected by a drift (06 R124). -/
def corrected (position : Nat) (x : Int) : Nat :=
  (((position : Int) + x) % 1600).toNat

/-- A correction counted forward in the present direction. -/
def forward (d : Dir) (x : Int) : Int :=
  match d with
  | .cw => x
  | .ccw => -x

end Sys2Proof.Machine
end

