-- ==== Sys2Proof/Machine/Drive.lean ====
section
/-! DEFINITION. The Selector Drive (05, 06): how a travel starts, settles and ends, the hand-out of slots, filing and
retargeting a travel request, and the resume of paused channels. -/

namespace Sys2Proof.Machine

/-! ## The end of a travel (05 R96) -/

/-- The slots without those a selector's request holds. -/
def Slots.release (k : Slots) (f : FilterId) : Slots :=
  { first := if k.first = some f then none else k.first,
    second := if k.second = some f then none else k.second }

/-- The slots with a free one given to a selector's request. -/
def Slots.take (k : Slots) (f : FilterId) : Slots :=
  if k.first = none then { k with first := some f } else { k with second := some f }

/-- A slot is free. -/
def Slots.hasFree (k : Slots) : Bool :=
  k.first.isNone || k.second.isNone

/-- A selector's request holds a slot. -/
def Slots.holds (k : Slots) (f : FilterId) : Bool :=
  k.first == some f || k.second == some f

/-- A channel at the end of its travel: IDLE on ARRIVED, otherwise FAULTED; POSITION_LOST and HOME_NOT_FOUND leave the
position unknown (05 R96, 06 R118, R119, R127). DESIGN CHOICE: with no homing phase left the search counter keeps its last
count, of which 06 R117 speaks for a present phase alone (log entry 19). -/
def Channel.ended (ch : Channel) (o : TravelOutcome) : Channel :=
  { ch with
    state := if o = .arrived then .idle else .faulted,
    position := if o = .positionLost || o = .homeNotFound then none else ch.position,
    speed := 0, residue := 0, overrun := false,
    seated := ch.seated && o = .arrived,
    settleTimer := none, settleStop := none, edge := none, homing := none }

/-- A request ends with its outcome (05 R96): it is discarded, its slot is freed or its place in the queue given up, and
the outcome is delivered. The hand-out follows by `handOut`. -/
def State.finishTravel (s : State) (f : FilterId) (o : TravelOutcome) : State :=
  let t := (s.updChannel f fun ch => ch.ended o).setRequest f none
  let u := { t with slots := t.slots.release f, travelQueue := t.travelQueue.filter fun g => g != f }
  match s.requests.get f with
  | some r => u.deliver r.requester f o
  | none => u

/-! ## Starts (05 section 5.3) -/

/-- A channel after a start of an ordinary travel (05 R99, R100, R101), or the fault it ends in. It dwells before a change
of direction and after an overrun stop; where a pause condition holds it pauses instead of stepping (log entry 15). -/
def Channel.start (ch : Channel) (target : Stop) (paused : Bool) : Channel × Option TravelOutcome :=
  match ch.position with
  | none => (ch, some .positionLost)
  | some p =>
    match ch.chooseDir p target.position with
    | none => (ch, some .jammed)
    | some d =>
      if ch.overrun || (ch.dir.isSome && ch.dir != some d) then (ch.halt .dwell, none)
      else if paused then (ch.pause, none)
      else (ch.begin d ch.profile.startCreep, none)

/-- A channel after a start of a homing travel (06 R126, R129): CW alone, at START_SPEED, without start creep. -/
def Channel.startHoming (ch : Channel) (paused : Bool) : Channel × Option TravelOutcome :=
  if ch.cwTorque then (ch, some .jammed)
  else if ch.dir = some .ccw then (ch.halt .dwell, none)
  else if paused then (ch.pause, none)
  else (ch.begin .cw 0, none)

/-- A channel at the expiry of its dwell (05 R100, 06 R126): it pauses while a pause condition holds, otherwise it
chooses again and steps at once. -/
def Channel.afterDwell (ch : Channel) (target : Stop) (paused : Bool) : Channel × Option TravelOutcome :=
  if paused then (ch.pause, none)
  else
    match ch.homing with
    | some _ => if ch.cwTorque then (ch, some .jammed) else (ch.begin .cw 0, none)
    | none =>
      match ch.position with
      | none => (ch, some .positionLost)
      | some p =>
        match ch.chooseDir p target.position with
        | none => (ch, some .jammed)
        | some d => (ch.begin d ch.profile.startCreep, none)

/-- Put back a channel after a start, and end its travel where the start failed. -/
def State.afterStart (s : State) (f : FilterId) (x : Channel × Option TravelOutcome) : State :=
  let t := s.updChannel f fun _ => x.1
  match x.2 with
  | none => t
  | some o => t.finishTravel f o

/-- The selector of an ordinary travel makes a start towards its target. -/
def State.startTravel (s : State) (f : FilterId) (target : Stop) : State :=
  s.afterStart f ((s.channels.get f).start target s.pauseCondition)

/-- A start of whichever kind of travel the channel makes. -/
def State.startAny (s : State) (f : FilterId) (target : Stop) : State :=
  if (s.channels.get f).homing.isSome then s.afterStart f ((s.channels.get f).startHoming s.pauseCondition)
  else s.startTravel f target

/-! ## Settling (06 section 6.3) -/

/-- The settle confirms the seat (06 R119). The count becomes the position of the stop settled at. If that is still the
target, the outcome is ARRIVED; after a retarget the channel starts afresh with its slot, or joins the travel queue if it
holds none (05 R107). -/
def State.seatConfirmed (s : State) (f : FilterId) : State :=
  match s.requests.get f with
  | none => s
  | some r =>
    let stop := (s.channels.get f).settleStop.getD r.target
    let t := s.updChannel f fun ch =>
      { ch with position := some stop.position, seated := true, settleTimer := none, settleStop := none }
    if r.target = stop then t.finishTravel f .arrived
    else
      let u := t.updChannel f fun ch => { ch.halt .settling with homing := none }
      if s.slots.holds f then u.startTravel f r.target
      else
        { (u.setRequest f (some { r with active := false })).updChannel f
            (fun ch => { ch with state := .waiting }) with travelQueue := u.travelQueue ++ [f] }

/-- The channel enters SETTLING over a stop (06 R119): a closed detent confirms the seat at once, otherwise the settle
timer starts. -/
def State.enterSettling (s : State) (f : FilterId) (stop : Stop) : State :=
  let closed := (s.channels.get f).detent
  let t := s.updChannel f fun ch =>
    { ch.halt .settling with
      overrun := false, settleStop := some stop,
      settleTimer := if ch.detent then none else some s.settings.detentSettle }
  if closed then t.seatConfirmed f else t

/-! ## The hand-out of slots (05 R95) -/

/-- The settings a travel copies at its hand-out (05 R97). -/
def Settings.profile (t : Settings) : Profile :=
  { startSpeed := t.startSpeed, runSpeed := t.runSpeed, speedStep := t.speedStep, softBand := t.softBand,
    startCreep := t.startCreep }

/-- The start of a homing travel: position unknown, phase by the home flag, search counter 0 (06 R126). -/
def Channel.prepareHoming (ch : Channel) : Channel :=
  { ch with position := none, seated := false, homing := some (if ch.home then .clear else .search), search := 0 }

/-- The request of a selector takes a slot and its channel makes a start (05 R95, R101). -/
def State.giveSlot (s : State) (f : FilterId) : State :=
  match s.requests.get f with
  | none => s
  | some r =>
    let t := (s.setRequest f (some { r with active := true })).updChannel f fun ch =>
      { ch with profile := s.settings.profile, slowLatch := false }
    let u := { t with slots := t.slots.take f }
    if r.requester = .homing then (u.updChannel f Channel.prepareHoming).startAny f r.target
    else if (s.channels.get f).position = some r.target.position then u.enterSettling f r.target
    else u.startTravel f r.target

/-- Hand free slots to the head of the travel queue, at most `n` of them (05 R95). -/
def State.handOutUpTo : Nat → State → State
  | 0, s => s
  | n + 1, s =>
    match s.travelQueue with
    | [] => s
    | f :: rest =>
      if s.slots.hasFree && !s.pauseCondition then
        State.handOutUpTo n (State.giveSlot { s with travelQueue := rest } f)
      else s

/-- The hand-out of slots (05 R95). Each hand-out takes one request off the queue, so as many rounds as it is long are
enough. -/
def State.handOut (s : State) : State :=
  State.handOutUpTo s.travelQueue.length s

/-- A travel ends and the freed slot is handed out (05 R96). -/
def State.endTravel (s : State) (f : FilterId) (o : TravelOutcome) : State :=
  (s.finishTravel f o).handOut

/-! ## Filing and retargeting (05 R93, R107 to R109) -/

/-- A retarget of a MOVING channel (05 R108, R109): where the new target lies nearer than the braking estimate the overrun
mark is set, otherwise it is cleared and the travel continues. A homing travel makes no such comparison. -/
def Channel.retargeted (ch : Channel) (seatCreep : Nat) (target : Stop) : Channel :=
  match ch.state, ch.homing, ch.position with
  | .moving, none, some p =>
    let ahead := distance ch.turning p target.position
    { ch with overrun := ahead < ch.profile.brakingSteps seatCreep ch.speed }
  | _, _, _ => ch

/-- A new request for a selector that has one (05 R93, R107, R108). A target equal to the present one changes the
requester alone. -/
def State.retarget (s : State) (f : FilterId) (r : TravelRequest) (target : Stop) (q : Requester) : State :=
  let t := s.setRequest f (some { r with target := target, requester := q })
  if target = r.target then t else t.updChannel f fun ch => ch.retargeted s.settings.seatCreep target

/-- A request filed as WAITING at the back of the travel queue (05 R93). -/
def State.fileWaiting (s : State) (f : FilterId) (target : Stop) (q : Requester) : State :=
  let t := (s.setRequest f (some { target := target, requester := q, active := false })).updChannel f fun ch =>
    { ch with state := .waiting }
  State.handOut { t with travelQueue := t.travelQueue ++ [f] }

/-- A zero-length request: ACTIVE at once without a slot, and the channel settles (05 R93). -/
def State.fileZeroLength (s : State) (f : FilterId) (target : Stop) (q : Requester) : State :=
  (s.setRequest f (some { target := target, requester := q, active := true })).enterSettling f target

/-- A travel request arrives at the Travel Scheduler (05 R93). -/
def State.fileTravel (s : State) (f : FilterId) (target : Stop) (q : Requester) : State :=
  match s.requests.get f with
  | some r => s.retarget f r target q
  | none =>
    match (s.channels.get f).position with
    | none => if q = .homing then s.fileWaiting f target q else s.deliver q f .positionLost
    | some p =>
      if (s.channels.get f).state = .idle && p = target.position && q ≠ .homing then s.fileZeroLength f target q
      else s.fileWaiting f target q

/-! ## Pause and resume (05 R110, R111) -/

/-- Plant stop reaches the drive: every MOVING channel pauses at once (05 R110). -/
def State.pauseMoving (s : State) : State :=
  allFilters.foldl (fun t f => t.updChannel f fun ch => if ch.state = .moving then ch.pause else ch) s

/-- A PAUSED channel makes a fresh start (05 R111, 06 R129). -/
def State.resume (s : State) (f : FilterId) : State :=
  match s.requests.get f with
  | none => s
  | some r => if (s.channels.get f).state = .paused then s.startAny f r.target else s

/-- Every PAUSED channel resumes where no pause condition is left, and then the slots are handed out (05 R111, R95). -/
def State.resumeAll (s : State) : State :=
  if s.pauseCondition then s else (allFilters.foldl (fun t f => t.resume f) s).handOut

end Sys2Proof.Machine
end

