-- ==== Sys2Proof/Machine/Sequence.lean ====
section
/-! DEFINITION. The Backwash Sequence (04) where the Line asks for travels: the way to the rinse, the return, waste pulses,
suspension and resume, plant stop and recovery, and calling a clean off. -/

namespace Sys2Proof.Machine

/-- The record with every timer of the phase stopped and no phase held. -/
def LineRecord.stopTimers (r : LineRecord) : LineRecord :=
  { r with heldPhase := none, phaseTimer := .stopped, flowTimer := .stopped, suspendTimer := none }

/-- TO_RINSE begins: pump off, travel to stop 6 (04 R74). -/
def State.toRinse (s : State) (r : LineRecord) : State :=
  let t := (s.setPump false).setClean (some { r.stopTimers with phase := .toRinse })
  t.fileTravel r.filter .rinse .backwashLine

/-- RETURNING begins: pump off, the return target computed, travel to it (04 R75). -/
def State.beginReturning (s : State) (r : LineRecord) : State :=
  let target := s.returnTargetOf r
  let t := (s.setPump false).setClean (some { r.stopTimers with phase := .returning, returnTarget := target })
  t.fileTravel r.filter target .backwashLine

/-- The Line holds a RETURNING whose request still waits for a slot. -/
def State.holdsWaitingReturn (s : State) (r : LineRecord) : Bool :=
  r.phase == .stopHeld && r.heldPhase == some .returning && (s.channels.get r.filter).state == .waiting

/-- The return target is computed again when the filter's mark has changed; in RETURNING the travel is retargeted with it
(04 R75). DESIGN CHOICE: so is a held RETURNING that waits for a slot, when the pass of a release changes the mark: the
selectors' resume, taken before the recovery, would otherwise let it arrive at the old target (04 R83; log entry 39). -/
def State.refreshReturn (s : State) : State :=
  match s.line.clean with
  | none => s
  | some r =>
    let target := s.returnTargetOf r
    if target = r.returnTarget then s
    else
      let t := s.setClean (some { r with returnTarget := target })
      if r.phase = .returning || s.holdsWaitingReturn r then t.fileTravel r.filter target .backwashLine else t

/-- A run phase (04 R67). -/
def Phase.isRun : Phase → Bool
  | .backwashRun | .rinseRun => true
  | .toBackwash | .toRinse | .returning | .suspended | .stopHeld => false

/-- The outcome, set if it is still NONE (04 R72, R73). -/
def CleanOutcome.orElse (o x : CleanOutcome) : CleanOutcome :=
  if o = .none then x else o

/-- A rinse has run through the filter's bed: its rinse owed mark is cleared (04 R72, R73). -/
def State.rinsed (s : State) (f : FilterId) : State :=
  s.updFilter f fun x => { x with rinseOwed := false }

/-- A run phase ends and the Line goes on (04 R72, R73): by volume a rinse that still has outcome NONE is COMPLETE, by time
either phase is SHORT. -/
def State.endRun (s : State) (r : LineRecord) (byTime : Bool) : State :=
  if r.phase = .backwashRun then
    s.toRinse (if byTime then { r with outcome := r.outcome.orElse .short } else r)
  else
    (s.rinsed r.filter).beginReturning
      { r with outcome := r.outcome.orElse (if byTime then .short else .complete) }

/-- The record after a counted pulse of `litres` (04 R72, steps 1 to 3). -/
def LineRecord.countPulse (r : LineRecord) (litres : Nat) : LineRecord :=
  { r with counted := r.counted + litres, flowTimer := .stopped, wetted := r.wetted || r.phase == .backwashRun }

/-- The Line takes a waste pulse (04 R72). -/
def State.lineWastePulse (s : State) : State :=
  match s.line.clean with
  | none => s
  | some r =>
    if r.phase.isRun then
      let r' := r.countPulse s.settings.litresPerWastePulse
      if s.settings.phaseVolume r.phase ≤ r'.counted then s.endRun r' false else s.setClean (some r')
    else s

/-- The allowance spends a waste pulse, reported as stray outside the run phases (03 R56). -/
def State.spendWaste (s : State) : State :=
  let running := match s.line.clean with
    | some r => r.phase.isRun
    | none => false
  let t := { s with waste := { s.waste with allowance := s.waste.allowance - s.settings.litresPerWastePulse } }
  if running then t else t.post .plant .strayWasteFlow

/-- The expiry of the phase timer (04 R73). -/
def State.linePhaseExpiry (s : State) : State :=
  match s.line.clean with
  | none => s
  | some r =>
    match r.phaseTimer with
    | .running _ => if r.phase.isRun then s.endRun r true else s
    | .stopped | .held _ => s

/-- The Line becomes UNAVAILABLE (03 R59, 04 R76). -/
def State.lineUnavailable (s : State) : State :=
  let t := { s with line := { s.line with available := false } }
  t.post .plant .lineUnavailable

/-- The expiry of the Line's flow-proof timer (04 R76, R77). -/
def State.lineFlowExpiry (s : State) : State :=
  match s.line.clean with
  | none => s
  | some r =>
    if r.flowTimer = .running && r.phase.isRun then
      if r.phase = .backwashRun && !r.wetted then
        s.lineUnavailable.beginReturning { r with outcome := .noFlow, requeue := true }
      else s.lineUnavailable.beginReturning { r with outcome := .noFlow, exitUnrinsed := true }
    else s

/-- A phase timer held where it stands (04 R79). -/
def PhaseTimer.hold : PhaseTimer → PhaseTimer
  | .running m => .held m
  | .held m => .held m
  | .stopped => .stopped

/-- A flow-proof timer held where it stands (04 R79); one that a counted pulse has stopped stays stopped (04 R76). -/
def FlowTimer.hold : FlowTimer → FlowTimer
  | .running => .held
  | .held => .held
  | .stopped => .stopped

/-- LOW_LOW becomes active (04 R79). -/
def State.lineSuspend (s : State) : State :=
  match s.line.clean with
  | none => s
  | some r =>
    if r.phase.isRun then
      (s.setPump false).setClean (some { r with
        phase := .suspended, heldPhase := some r.phase, phaseTimer := r.phaseTimer.hold, flowTimer := r.flowTimer.hold,
        suspendTimer := some s.settings.suspendLimit })
    else s

/-- A SUSPENDED Line resumes its run phase, or begins the one it waits for (04 R80): the phase timer goes on from where it
was held, the flow-proof timer starts anew. -/
def State.lineResume (s : State) : State :=
  match s.line.clean with
  | none => s
  | some r =>
    match r.phase, r.heldPhase with
    | .suspended, some p =>
      match r.phaseTimer with
      | .held m =>
        (s.setClean (some { r with phase := p, heldPhase := none, phaseTimer := .running m, flowTimer := .running,
                                   suspendTimer := none })).setPump true
      | .stopped | .running _ => s.beginRun r p
    | _, _ => s

/-- The resume as a switch event makes it: LOW_LOW clear with BW_START above (04 R80). -/
def State.lineLevel (s : State) : State :=
  if !s.waste.lowLow && s.waste.bwStart then s.lineResume else s

/-- The expiry of the suspend timer (04 R81). -/
def State.lineSuspendExpiry (s : State) : State :=
  match s.line.clean with
  | none => s
  | some r =>
    if r.phase = .suspended && r.suspendTimer.isSome then
      let t := s.post .plant .tankLow
      if r.wetted then t.beginReturning { r with exitUnrinsed := true }
      else t.beginReturning { r with outcome := .aborted, requeue := r.requeue || !r.abortPending }
    else s

/-- The plant stop chain opens (04 R82): the held phase is the phase, or that of a SUSPENDED Line. -/
def State.lineStop (s : State) : State :=
  match s.line.clean with
  | none => s
  | some r =>
    if r.phase = .stopHeld then s
    else
      (s.setPump false).setClean (some { r.stopTimers with
        phase := .stopHeld, heldPhase := if r.phase = .suspended then r.heldPhase else some r.phase })

/-- A record that a recovery turns to ABORTED, re-queued unless an abort is pending (04 R83). -/
def LineRecord.recovered (r : LineRecord) : LineRecord :=
  { r with outcome := .aborted, requeue := r.requeue || !r.abortPending }

/-- RETURNING continues after a hold (04 R83). A selector still on its way there issues nothing; a return target that has
changed during the hold is taken up now (04 R75). -/
def State.continueReturning (s : State) (r : LineRecord) : State :=
  let t := s.setClean (some { r.stopTimers with phase := .returning })
  if (s.requests.get r.filter).isSome then t.fileTravel r.filter r.returnTarget .backwashLine else t

/-- The plant stop is released and the Line recovers by its held phase (04 R83). DESIGN CHOICE: a held TO_RINSE or RINSE_RUN
whose bed is not wetted, for which the table has no row, recovers into a forced rinse as the wetted one does (log
entry 31). -/
def State.lineRecover (s : State) : State :=
  match s.line.clean with
  | none => s
  | some r =>
    if r.phase = .stopHeld then
      match r.heldPhase with
      | some .toBackwash => s.beginReturning r.recovered
      | some .backwashRun => if r.wetted then s.toRinse r.recovered else s.beginReturning r.recovered
      | some .toRinse => s.toRinse r.recovered
      | some .rinseRun => s.toRinse r.recovered
      | some .returning | some .suspended | some .stopHeld | none => s.continueReturning r
    else s

/-- The phase by which an abort is taken: for SUSPENDED and STOP_HELD the held phase (04 R86). -/
def LineRecord.abortPhase (r : LineRecord) : Option Phase :=
  if r.phase = .suspended || r.phase = .stopHeld then r.heldPhase else some r.phase

/-- A record whose clean has been called off (04 R86). -/
def LineRecord.calledOff (r : LineRecord) : LineRecord :=
  { r with abortPending := true, outcome := .aborted, requeue := false }

/-- ABORT_BACKWASH for the cleaning filter: the state after it and the status it answers (04 R86). -/
def State.abortClean (s : State) (r : LineRecord) : Status × State :=
  let held := r.phase == .stopHeld
  match r.abortPhase with
  | some .toBackwash =>
    (.done, if held then s.setClean (some r.calledOff) else s.beginReturning r.calledOff)
  | some .backwashRun =>
    if r.wetted then (.accepted, if held then s.setClean (some r.calledOff) else s.toRinse r.calledOff)
    else (.done, if held then s.setClean (some r.calledOff) else s.beginReturning r.calledOff)
  | some .toRinse | some .rinseRun | some .returning | some .suspended | some .stopHeld | none => (.tooLate, s)

end Sys2Proof.Machine
end

