-- ==== Sys2Proof/Machine/Allocator.lean ====
section
/-! DEFINITION. The Bank Allocator (01 section 1.4): the five steps of an allocation pass and what it hands on. -/

namespace Sys2Proof.Machine

/-- A pass in the making: the state as its steps have left it, the filters whose state it changed in the order of the
changes, and the circuits whose assignments it ended (01 R21). -/
structure PassWork where
  state : State
  changed : List FilterId
  left : List CircuitId

/-- The circuits in priority order. -/
def State.priority (s : State) : List CircuitId :=
  s.settings.priority.toList

/-- A STANDBY filter that steps 1, 3 and 4 may assign: its rinse owed mark is clear (01 R13). -/
def FilterRecord.spare (r : FilterRecord) : Bool :=
  r.state == .standby && !r.rinseOwed

/-- The order of change with a filter put last (log entry 13). -/
def moveLast (l : List FilterId) (f : FilterId) : List FilterId :=
  (l.filter fun g => g != f) ++ [f]

/-- A spare filter becomes JOINING on a circuit (01 R15, R17, R18). -/
def PassWork.assign (w : PassWork) (c : CircuitId) (cover : Bool) (f : FilterId) : PassWork :=
  { w with
    state := w.state.moveFilter f .joining fun r => { r with circuit := some c, cover := cover },
    changed := moveLast w.changed f }

/-- Step 1 for one circuit: its minimum from the spare filters, lowest-numbered first (01 R15). -/
def PassWork.meetMinimum (w : PassWork) (c : CircuitId) : PassWork :=
  allFilters.foldl (fun w f =>
    if (w.state.filters.get f).spare && w.state.activeCount c < (w.state.circuits.get c).minimum then
      w.assign c false f
    else w) w

/-- The keep level of a circuit (01 R16). -/
def State.keepLevel (s : State) (d : CircuitId) : Nat :=
  if s.flowProven d then max (s.circuits.get d).minimum 1 else (s.circuits.get d).minimum

/-- The donor for a circuit: lowest in the priority order among those with more SERVICE filters than they keep
(01 R16). -/
def State.donor (s : State) (c : CircuitId) : Option CircuitId :=
  s.priority.reverse.find? fun d => d != c && s.keepLevel d < s.serviceCount d

/-- A SERVICE filter of a circuit, marked cover or not as the flag says. -/
def State.servesAs (s : State) (d : CircuitId) (cover : Bool) (f : FilterId) : Bool :=
  (s.filters.get f).serves d && (s.filters.get f).cover == cover

/-- A donor's only SERVICE filter above its keep level is its cover: the filters that are no cover do not reach above it
(01 R16). DEDUCED: they are the first to be kept (log entry 38). -/
def State.onlyCoverAbove (s : State) (d : CircuitId) : Bool :=
  (allFilters.filter fun f => s.servesAs d false f).length ≤ s.keepLevel d

/-- The filter a donor gives: its highest-numbered SERVICE filter that is not a cover, or its cover where that alone is
above its keep level (01 R16). -/
def State.gift (s : State) (d : CircuitId) : Option FilterId :=
  allFilters.reverse.find? fun f => s.servesAs d (s.onlyCoverAbove d) f

/-- One transfer of step 2, if the circuit needs one and a donor exists (01 R16). -/
def PassWork.transfer (w : PassWork) (c : CircuitId) : PassWork :=
  if w.state.activeCount c < (w.state.circuits.get c).minimum then
    match w.state.donor c with
    | none => w
    | some d =>
      match w.state.gift d with
      | none => w
      | some f =>
        { state := w.state.moveFilter f .joining fun r => { r with circuit := some c, cover := false },
          changed := moveLast w.changed f,
          left := w.left ++ [d] }
  else w

/-- Step 2 for one circuit: transfers one at a time; six filters make at most six (01 R16). -/
def PassWork.meetByTransfer (w : PassWork) (c : CircuitId) : PassWork :=
  allFilters.foldl (fun w _ => w.transfer c) w

/-- The CLEANING filter of circuit `c` that is marked release_on_return, if there is one. -/
def FilterRecord.markedFor (r : FilterRecord) (c : CircuitId) : Bool :=
  r.state == .cleaning && r.releaseOnReturn && r.on c

/-- Step 3, action 1: the mark of a CLEANING filter is cleared (01 R17). -/
def PassWork.unmark (w : PassWork) (c : CircuitId) : PassWork :=
  if w.state.heldCount c < (w.state.circuits.get c).wanted then
    match allFilters.find? (fun f => (w.state.filters.get f).markedFor c) with
    | none => w
    | some f => { w with state := w.state.updFilter f fun r => { r with releaseOnReturn := false } }
  else w

/-- Step 3 for one circuit: its wanted count (01 R17). -/
def PassWork.meetWanted (w : PassWork) (c : CircuitId) : PassWork :=
  allFilters.foldl (fun w f =>
    if (w.state.filters.get f).spare && w.state.heldCount c < (w.state.circuits.get c).wanted then
      w.assign c false f
    else w) (w.unmark c)

/-- The circuit has a filter marked cover (01 R18). -/
def State.hasCover (s : State) (c : CircuitId) : Bool :=
  allFilters.any fun f => (s.filters.get f).cover && (s.filters.get f).on c

/-- The circuit has a filter CLEANING (01 R19). -/
def State.hasCleaning (s : State) (c : CircuitId) : Bool :=
  allFilters.any fun f => (s.filters.get f).state == .cleaning && (s.filters.get f).on c

/-- Step 4 for one circuit: a cover filter (01 R18). -/
def PassWork.bringCover (w : PassWork) (c : CircuitId) : PassWork :=
  if w.state.floorBlocked c && !w.state.hasCover c then
    match allFilters.find? (fun f => (w.state.filters.get f).spare) with
    | none => w
    | some f => w.assign c true f
  else w

/-- The allowed count of a circuit (01 R19). DEDUCED: a circuit that wants no filter has no allowance for a cover, since its
pass releases every filter it holds and marks a CLEANING one (08 R156; log entry 12). -/
def State.allowedCount (s : State) (c : CircuitId) : Nat :=
  let wanted := (s.circuits.get c).wanted
  if 0 < wanted && s.hasCover c && (s.floorBlocked c || s.hasCleaning c) then wanted + 1 else wanted

/-- The first filter of a list that meets a test, tests in order. -/
def State.firstBy (s : State) (order : List FilterId) : List (FilterRecord → Bool) → Option FilterId
  | [] => none
  | p :: ps =>
    match order.find? (fun f => p (s.filters.get f)) with
    | some f => some f
    | none => s.firstBy order ps

/-- The filter that step 5 releases next: the cover, then SERVICE, then JOINING filters, highest-numbered first, then the
CLEANING filter (01 R19). -/
def State.nextRelease (s : State) (c : CircuitId) : Option FilterId :=
  s.firstBy allFilters.reverse
    [fun r => r.activeOn c && r.cover,
     fun r => r.serves c,
     fun r => r.state == .joining && r.on c,
     fun r => r.state == .cleaning && !r.releaseOnReturn && r.on c]

/-- The release of one filter (01 R19). -/
def PassWork.releaseFilter (w : PassWork) (c : CircuitId) (f : FilterId) : PassWork :=
  if (w.state.filters.get f).state = .cleaning then
    { w with state := w.state.updFilter f fun r => { r with releaseOnReturn := true } }
  else
    { state := w.state.moveFilter f .leaving fun r => { r with circuit := none, cover := false },
      changed := moveLast w.changed f,
      left := w.left ++ [c] }

/-- One release of step 5, if the circuit holds more than the count it is allowed as the table stands (log entry 12). -/
def PassWork.release (w : PassWork) (c : CircuitId) : PassWork :=
  if w.state.allowedCount c < w.state.heldCount c then
    match w.state.nextRelease c with
    | none => w
    | some f => w.releaseFilter c f
  else w

/-- Step 5 for one circuit; six filters make at most six releases (01 R19). -/
def PassWork.releaseSurplus (w : PassWork) (c : CircuitId) : PassWork :=
  allFilters.foldl (fun u _ => u.release c) w

/-- The end of step 5 for one circuit: a cover with nothing left to cover loses its mark (01 R19, R20). -/
def PassWork.clearCover (w : PassWork) (c : CircuitId) : PassWork :=
  if w.state.floorBlocked c || w.state.hasCleaning c then w
  else { w with state := w.state.loseCover (some c) }

/-- The five steps, each over the circuits in priority order (01 R15 to R19). -/
def State.passSteps (s : State) : PassWork :=
  let order := s.priority
  let w0 : PassWork := { state := s, changed := [], left := [] }
  let w1 := order.foldl PassWork.meetMinimum w0
  let w2 := order.foldl PassWork.meetByTransfer w1
  let w3 := order.foldl PassWork.meetWanted w2
  let w4 := order.foldl PassWork.bringCover w3
  let w5 := order.foldl PassWork.releaseSurplus w4
  order.foldl PassWork.clearCover w5

/-- The travel request of a filter whose state a pass changed (01 R4, R21). -/
def State.filePassTravel (s : State) (f : FilterId) : State :=
  match (s.filters.get f).state, (s.filters.get f).circuit with
  | .joining, some c => s.fileTravel f (.circuit c) .allocator
  | .leaving, _ => s.fileTravel f .closed .allocator
  | _, _ => s

/-- What a pass hands on (01 R21): travel requests in the order of the changes, and FILTER_LEFT for every assignment ended.
DEDUCED: the return target of a clean whose mark a step changed is computed before them, since 04 R75 computes it at the
change (log entry 39). The path states are evaluated at the end of the event. -/
def PassWork.handOn (w : PassWork) : State :=
  let t := w.changed.foldl (fun t f => t.filePassTravel f) w.state.refreshReturn
  w.left.foldl (fun t c => t.post (.circuit c) .filterLeft) t

/-- An allocation pass, taken only while the plant is RUNNING and plant stop is inactive (01 R14). The eligibility and the
grant are evaluated after it (01 R21, 03 R53). -/
def State.takePass (s : State) : State :=
  if s.plant = .running && !s.stopActive then s.passSteps.handOn.filterChanged else s

end Sys2Proof.Machine
end

