-- ==== Sys2Proof/Machine/Cascade.lean ====
section
/-! DEFINITION. The grant of the Line (03 R60, R61), and how an event is taken whole: what it owes (passes, evaluations of
eligibility, the grant) follows its own effect, and the path states are evaluated at its end. -/

namespace Sys2Proof.Machine

/-- The grant conditions but for the queue's (03 R60). -/
def State.grantAllowed (s : State) : Bool :=
  s.plant == .running && !s.stopActive && s.line.clean.isNone && s.line.available && s.waste.bwStart
    && s.settings.backwashVolume + s.settings.rinseVolume ≤ s.waste.allowance

/-- The first ELIGIBLE entry in queue order (03 R61). -/
def State.firstEligible (s : State) : Option QueueEntry :=
  s.queue.find? fun e => e.eligibility == .eligible

/-- The Line record of a grant (04 R67). -/
def State.newClean (s : State) (e : QueueEntry) : LineRecord :=
  let r : LineRecord :=
    { filter := e.filter, startCircuit := (s.filters.get e.filter).circuit, reasons := e.reasons,
      phase := .toBackwash, heldPhase := none, counted := 0, phaseTimer := .stopped, flowTimer := .stopped,
      suspendTimer := none, wetted := false, outcome := .none, exitUnrinsed := false, abortPending := false,
      requeue := false, returnTarget := .closed }
  let target := match (s.filters.get e.filter).circuit with
    | none => Stop.closed
    | some c => Stop.circuit c
  { r with returnTarget := target }

/-- The grant of the Line to an entry (03 R61). -/
def State.grant (s : State) (e : QueueEntry) : State :=
  let t := s.setQueue (removeEntry s.queue e.filter)
  let u := t.setClean (some (s.newClean e))
  let v := u.moveFilter e.filter .cleaning fun r => { r with releaseOnReturn := false }
  let x := v.postTo (s.filters.get e.filter).circuit .backwashStarted
  x.fileTravel e.filter .backwash .backwashLine

/-- An evaluation of the grant (03 R60). At most one grant follows from one event (log entry 10). -/
def State.tryGrant (s : State) : State :=
  if s.grantAllowed && !s.due.granted then
    match s.firstEligible with
    | none => s
    | some e => State.grant { s with due := { s.due with granted := true } } e
  else s

/-- What the event owes, at most `n` rounds of it: first a pass, then the eligibility, last the grant (03 R53, R60). With
`passes` false a pass that falls due is dropped. -/
def State.settle (passes : Bool) : Nat → State → State
  | 0, s => s
  | n + 1, s =>
    if s.due.pass then
      let t := { s with due := { s.due with pass := false } }
      State.settle passes n (if passes then t.takePass else t)
    else if s.due.eval then
      State.settle passes n (State.evaluateQueue { s with due := { s.due with eval := false } })
    else if s.due.grant then
      State.settle passes n (State.tryGrant { s with due := { s.due with grant := false } })
    else s

/-- Nothing is due. -/
def Due.none : Due :=
  { pass := false, eval := false, grant := false, granted := false }

/-- The end of an event: what it owes is done, and the path states are evaluated once (01 R11). Where the passes of one
event do not come to an end, the event goes on without them (log entry 9). -/
def State.finishEvent (s : State) : State :=
  let t := State.settle true Config.settleRounds s
  let u := State.settle false Config.settleRounds t
  { u.evalPaths with due := Due.none }

end Sys2Proof.Machine
end

