-- ==== Sys2Proof/Machine/Flow.lean ====
section
/-! DEFINITION. The events of the meters, the loads and the Line (02, 03, 04): flow and waste pulses, flow proof, run time,
the DP switches, the refill, the tank switches and the timers of the Line. A strange expiry, of a timer that does not run,
changes nothing (log entry 5). -/

namespace Sys2Proof.Machine

/-! ## Dosing a pulse (07 sections 7.2 and 7.3) -/

/-- The conversion of an accumulator into owed strokes, at most `n` tests of it: the accumulator, the owed strokes and
whether the pulse saturates (07 R135, R136). Nine tests are enough, since eight strokes may be owed. -/
def convertDose (unit : Nat) : Nat → Nat → Nat → Nat × Nat × Bool
  | 0, a, o => (a, o, false)
  | n + 1, a, o =>
    if a < unit then (a, o, false)
    else if o < Config.owedMax then convertDose unit n (a - unit) (o + 1)
    else (unit - 1, o, true)

/-- The pacing interval in milliseconds (07 R138). -/
def Settings.pacingInterval (t : Settings) (c : CircuitId) : Nat :=
  60000 / t.maxStrokeRate.get c

/-- A stroke starts if one is owed and the pacing timer is stopped (07 R138). -/
def DoseChannel.tryStroke (d : DoseChannel) (interval : Nat) : DoseChannel :=
  if 0 < d.owed && d.pacing.isNone then
    { d with owed := d.owed - 1, delivered := min (d.delivered + 1) Config.count32Max, stroke := true,
             pacing := some interval }
  else d

/-- A pulse of `litres` taken by an ACTIVE channel: accumulation and conversion (07 R135, R136). -/
def DoseChannel.accumulate (d : DoseChannel) (unit amount : Nat) : DoseChannel :=
  let x := convertDose unit (Config.owedMax + 1) (d.accumulator + amount) d.owed
  { d with accumulator := x.1, owed := x.2.1,
           shortfall := if x.2.2 then min (d.shortfall + 1) Config.count16Max else d.shortfall }

/-- The pulse saturates (07 R136). -/
def DoseChannel.saturates (d : DoseChannel) (unit amount : Nat) : Bool :=
  (convertDose unit (Config.owedMax + 1) (d.accumulator + amount) d.owed).2.2

/-- A flow pulse reaches the Dose Channel (07 R135). -/
def State.dosePulse (s : State) (c : CircuitId) : State :=
  if s.doseStateOf c = .active then
    let unit := s.settings.strokeUnit c
    let amount := s.settings.litresPerFlowPulse.get c * (s.circuits.get c).demand
    let t := s.updDose c fun d => (d.accumulate unit amount).tryStroke (s.settings.pacingInterval c)
    if (s.doses.get c).saturates unit amount then t.post (.circuit c) .doseSaturated else t
  else s

/-! ## Throughput credit (02 section 2.5) -/

/-- The filters in the order of the round-robin: from the number after a filter, wrapping from 6 to 1 (02 R35). -/
def creditOrder : FilterId → List FilterId
  | .f1 => [.f2, .f3, .f4, .f5, .f6, .f1]
  | .f2 => [.f3, .f4, .f5, .f6, .f1, .f2]
  | .f3 => [.f4, .f5, .f6, .f1, .f2, .f3]
  | .f4 => [.f5, .f6, .f1, .f2, .f3, .f4]
  | .f5 => [.f6, .f1, .f2, .f3, .f4, .f5]
  | .f6 => [.f1, .f2, .f3, .f4, .f5, .f6]

/-- The filter that takes the next credit of a circuit, if one serves it (02 R35). -/
def State.creditFilter (s : State) (c : CircuitId) : Option FilterId :=
  (creditOrder (s.creditPointer.get c)).find? fun f => (s.filters.get f).serves c

/-- A record credited with litres (02 R36). -/
def FilterRecord.credited (r : FilterRecord) (litres : Nat) : FilterRecord :=
  { r with throughput := min (r.throughput + litres) Config.throughputMax, grace := r.grace - litres }

/-- A credit given to a filter; crossing the limit raises THROUGHPUT (02 R36, R40). -/
def State.creditTo (s : State) (c : CircuitId) (f : FilterId) : State :=
  let litres := s.settings.litresPerFlowPulse.get c
  let t := { s with creditPointer := s.creditPointer.set c f }
  let u := t.updFilter f fun r => r.credited litres
  if (s.filters.get f).throughput < s.settings.throughputLitres then u.checkThroughput f else u

/-- The throughput credit of a pulse (02 R35 to R37). -/
def State.credit (s : State) (c : CircuitId) : State :=
  match s.creditFilter c with
  | some f => s.creditTo c f
  | none => s.post (.circuit c) .flowWithoutPath

/-! ## Circuit flow (02) -/

/-- The Flow Monitor's part of a pulse: the open bin and the flow-proof timer (02 R28, R30, R32). -/
def FlowRecord.pulse (r : FlowRecord) (window : Nat) : FlowRecord :=
  { r with openBin := min (r.openBin + 1) Config.count16Max, proofTimer := some window }

/-- Flow proof has changed: the Dose Channel forms NO_FLOW, and eligibility and grant are due (02 R31, 07 R145). -/
def State.deliverFlowProof (s : State) (c : CircuitId) (present : Bool) : State :=
  (s.formReasons c fun r => { r with noFlow := !present }).needEval.needGrant

/-- A qualified pulse of a circuit's meter, in the order of R28. -/
def State.flowPulse (s : State) (c : CircuitId) : State :=
  let t := (s.pulseFlowMeter c).updFlow c fun r => r.pulse s.settings.flowProofWindow
  let u := if s.flowProven c then t else t.deliverFlowProof c true
  (u.credit c).dosePulse c

/-- FLOW_PULSE (02 R28). -/
def execFlowPulse (c : CircuitId) (s : State) : Host.Outcome State Fault Refusal :=
  .next (s.flowPulse c).finishEvent

/-- The expiry of a circuit's flow-proof timer (02 R30). -/
def State.flowProofExpiry (s : State) (c : CircuitId) : State :=
  if s.flowProven c then (s.updFlow c fun r => { r with proofTimer := none }).deliverFlowProof c false else s

/-- FLOW_PROOF_EXPIRY (02 R30, R31). -/
def execFlowProofExpiry (c : CircuitId) (s : State) : Host.Outcome State Fault Refusal :=
  .next (s.flowProofExpiry c).finishEvent

/-- A ring at the expiry of the bin timer: the oldest bin is discarded, the open one closed, a new one opened
(02 R32). -/
def FlowRecord.rotate (r : FlowRecord) : FlowRecord :=
  { r with openBin := 0, closedBins := r.openBin :: r.closedBins.take 8 }

/-- The expiry of the bin timer, in every ring (02 R32). -/
def State.rotateBins (s : State) : State :=
  { s with flow := ⟨s.flow.A.rotate, s.flow.B.rotate, s.flow.C.rotate, s.flow.D.rotate⟩ }

/-- BIN_TIMER_EXPIRY (02 R32). -/
def execBinTimerExpiry (s : State) : Host.Outcome State Fault Refusal :=
  .next s.rotateBins

/-- A qualified waste pulse: the allowance spends it and reads the Line's phase before the Line counts it (02 R34,
03 R56, 04 R72). -/
def State.wastePulse (s : State) : State :=
  s.pulseWasteMeter.spendWaste.lineWastePulse

/-- WASTE_PULSE (02 R34). -/
def execWastePulse (s : State) : Host.Outcome State Fault Refusal :=
  .next s.wastePulse.finishEvent

/-! ## Loads (02 sections 2.6 and 2.7) -/

/-- The expiry of a filter's minute timer; crossing the limit raises RUN_TIME (02 R38, R40). -/
def State.runTimeMinute (s : State) (f : FilterId) : State :=
  let r := s.filters.get f
  if r.minuteTimer then
    let t := s.updFilter f fun r => { r with runTime := min (r.runTime + 1) Config.count16Max }
    if r.runTime < s.settings.runTimeMinutes then t.checkRunTime f else t
  else s

/-- RUN_TIME_MINUTE (02 R38). -/
def execRunTimeMinute (f : FilterId) (s : State) : Host.Outcome State Fault Refusal :=
  .next (s.runTimeMinute f).finishEvent

/-- The expiry of a filter's re-check timer (02 R39). -/
def State.recheck (s : State) (f : FilterId) : State :=
  if (s.filters.get f).recheckTimer then s.checkLoads f else s

/-- RECHECK_EXPIRY (02 R39). -/
def execRecheckExpiry (f : FilterId) (s : State) : Host.Outcome State Fault Refusal :=
  .next (s.recheck f).finishEvent

/-- A record whose DP switch takes a level: a change to active starts the hold timer of a SERVICE filter, a change to
inactive stops it and returns it to zero (02 R41). -/
def FilterRecord.dpSwitched (r : FilterRecord) (active : Bool) (dpHold : Nat) : FilterRecord :=
  if r.dpActive = active then r
  else
    { r with dpActive := active,
             dpTimer := if active && r.state == .service then .running dpHold else .stopped }

/-- DP_SWITCH_CHANGE (02 R41). -/
def execDpSwitchChange (f : FilterId) (active : Bool) (s : State) : Host.Outcome State Fault Refusal :=
  .next (s.updFilter f fun r => r.dpSwitched active s.settings.dpHold)

/-- The expiry of a filter's DP hold timer: PRESSURE at grace 0, MEDIA_BLOCKED within the grace (02 R42). -/
def State.dpHoldExpiry (s : State) (f : FilterId) : State :=
  match (s.filters.get f).dpTimer with
  | .running n =>
    let t := s.updFilter f fun r => { r with dpTimer := .expired n }
    if (s.filters.get f).grace = 0 then t.fileEntry f { pressure := true } else t.faultFilter f .mediaBlocked
  | .stopped | .expired _ => s

/-- DP_HOLD_EXPIRY (02 R42). -/
def execDpHoldExpiry (f : FilterId) (s : State) : Host.Outcome State Fault Refusal :=
  .next (s.dpHoldExpiry f).finishEvent

/-! ## Waste allowance and tank switches (03 sections 3.4 and 3.5) -/

/-- A refill of the allowance (03 R55). -/
def State.refill (s : State) : State :=
  State.needGrant { s with
    waste := { s.waste with allowance := min (s.waste.allowance + s.settings.wasteRate) s.settings.wasteCap } }

/-- REFILL_TIMER_EXPIRY (03 R55). -/
def execRefillTimerExpiry (s : State) : Host.Outcome State Fault Refusal :=
  .next s.refill.finishEvent

/-- BW_START takes a level: a change to above evaluates the grant and may resume the Line (03 R58, 04 R80). -/
def State.bwStartChange (s : State) (above : Bool) : State :=
  if s.waste.bwStart = above then s
  else
    let t := { s with waste := { s.waste with bwStart := above } }
    if above then t.lineLevel.needGrant else t

/-- BW_START_CHANGE (03 R58). -/
def execBwStartChange (above : Bool) (s : State) : Host.Outcome State Fault Refusal :=
  .next (s.bwStartChange above).finishEvent

/-- LOW_LOW takes a level: active suspends a run phase, clear may resume the Line (04 R79, R80). -/
def State.lowLowChange (s : State) (active : Bool) : State :=
  if s.waste.lowLow = active then s
  else
    let t := { s with waste := { s.waste with lowLow := active } }
    if active then t.lineSuspend else t.lineLevel

/-- LOW_LOW_CHANGE (04 R79, R80). -/
def execLowLowChange (active : Bool) (s : State) : Host.Outcome State Fault Refusal :=
  .next (s.lowLowChange active).finishEvent

/-! ## Timers of the Line (04) -/

/-- PHASE_TIMER_EXPIRY (04 R73). -/
def execPhaseTimerExpiry (s : State) : Host.Outcome State Fault Refusal :=
  .next s.linePhaseExpiry.finishEvent

/-- LINE_FLOW_PROOF_EXPIRY (04 R76, R77). -/
def execLineFlowProofExpiry (s : State) : Host.Outcome State Fault Refusal :=
  .next s.lineFlowExpiry.finishEvent

/-- SUSPEND_TIMER_EXPIRY (04 R81). -/
def execSuspendTimerExpiry (s : State) : Host.Outcome State Fault Refusal :=
  .next s.lineSuspendExpiry.finishEvent

end Sys2Proof.Machine
end

