-- ==== Sys2Proof/Machine/Flags.lean ====
section
/-! DEFINITION. What the part reports (09 R168, R177, R182, R183): the codes of states, the status byte, the attention
line, and the layouts of the reads. -/

namespace Sys2Proof.Machine

/-! ## Codes (09 R183) -/

/-- A response status. -/
def Status.code : Status → Byte
  | .done => 0x00#8
  | .accepted => 0x01#8
  | .clamped => 0x02#8
  | .already => 0x03#8
  | .tooLate => 0x04#8
  | .refusedRange => 0x10#8
  | .refusedState => 0x11#8
  | .notYours => 0x12#8
  | .refusedUnknown => 0x13#8

/-- A plant state. -/
def PlantState.code : PlantState → Nat
  | .setup => 0
  | .homing => 1
  | .running => 2

/-- A filter state. -/
def FilterState.code : FilterState → Nat
  | .unknown => 0
  | .homing => 1
  | .standby => 2
  | .joining => 3
  | .service => 4
  | .leaving => 5
  | .cleaning => 6
  | .parking => 7
  | .outOfUse => 8
  | .fault => 9

/-- A fault kind, 0 when absent. -/
def faultCode : Option FaultKind → Nat
  | none => 0
  | some .jammed => 1
  | some .positionLost => 2
  | some .homeNotFound => 3
  | some .unrinsed => 4
  | some .mediaBlocked => 5

/-- A clean outcome. -/
def CleanOutcome.code : CleanOutcome → Nat
  | .none => 0
  | .complete => 1
  | .short => 2
  | .aborted => 3
  | .noFlow => 4

/-- A channel state. -/
def ChannelState.code : ChannelState → Nat
  | .unreferenced => 0
  | .idle => 1
  | .waiting => 2
  | .dwell => 3
  | .moving => 4
  | .paused => 5
  | .settling => 6
  | .faulted => 7

/-- A Line phase; 0 is IDLE, and for the held phase absent. -/
def phaseCode : Option Phase → Nat
  | none => 0
  | some .toBackwash => 1
  | some .backwashRun => 2
  | some .toRinse => 3
  | some .rinseRun => 4
  | some .returning => 5
  | some .suspended => 6
  | some .stopHeld => 7

/-- An eligibility. -/
def Eligibility.code : Eligibility → Nat
  | .eligible => 0
  | .inTransit => 1
  | .floorBlocked => 2
  | .needsStop => 3

/-- A mode (09 R181). -/
def Mode.code : Mode → Nat
  | .openPool => 1
  | .closed => 2
  | .superchlorinate => 3

/-- A dose channel state. -/
def DoseState.code : DoseState → Nat
  | .off => 0
  | .active => 1
  | .interlocked => 2

/-- The error of LINK_ERROR, 0 when its flag is clear. -/
def linkErrorCode : Option LinkErrorKind → Nat
  | none => 0
  | some .truncated => 1
  | some .check => 2
  | some .length => 3

/-- A list of bits as a number, bit 0 first. -/
def bitsValue : List Bool → Nat
  | [] => 0
  | b :: bs => b.toNat + 2 * bitsValue bs

/-- A set of backwash reasons. -/
def Reasons.code (r : Reasons) : Nat :=
  bitsValue [r.throughput, r.runTime, r.pressure, r.requested, r.retry]

/-- A set of interlock reasons. -/
def Interlocks.code (r : Interlocks) : Nat :=
  bitsValue [r.noPath, r.noFlow, r.plantStop, r.bulkEmpty, r.unconfirmed, r.notRunning]

/-- A circuit code, 0 when absent. -/
def circuitCode : Option CircuitId → Nat
  | none => 0
  | some c => circuitNumber c

/-- The three bytes of the notice set or the attention mask, bit 23 first. -/
def noticeBytes (b : NoticeBits) : List Byte :=
  valueBytes 3 b.toNat

/-! ## The attention line and the status byte -/

/-- The attention line of a port (09 R177): a notice in the mask, or a response with RESPONSE in the mask. -/
def Port.attention (q : Port) : Bool :=
  q.notices &&& q.mask &&& 0x7FFFFF#24 != 0#24 || (!q.responses.isEmpty && q.mask.getLsbD responseBit)

/-- Bit 4 of the status byte: the port's circuit, or on port P all four, ATTENDED (09 R168). -/
def State.attendedAt (s : State) : PortId → Bool
  | .circuit c => (s.circuits.get c).attended
  | .plant => allCircuits.all fun c => (s.circuits.get c).attended

/-- The status byte as a number (09 R168). -/
def State.statusValue (s : State) (p : PortId) : Nat :=
  let q := s.ports.get p
  s.stopActive.toNat * 128 + s.plant.code * 32 + (s.attendedAt p).toNat * 16
    + (decide (q.notices ≠ 0#24)).toNat * 8 + q.attention.toNat * 4 + q.responses.length

/-- The status byte that opens every frame of a port (09 R168). -/
def State.statusByte (s : State) (p : PortId) : Byte :=
  BitVec.ofNat 8 (s.statusValue p)

/-! ## The reads (09 R182) -/

/-- The flow rate of a circuit in l/min (02 R33). -/
def State.flowRate (s : State) (c : CircuitId) : Nat :=
  let r := s.flow.get c
  min ((r.openBin + r.closedBins.foldl (· + ·) 0) * s.settings.litresPerFlowPulse.get c) Config.count16Max

/-- One byte. -/
def byteOf (n : Nat) : List Byte :=
  valueBytes 1 n

/-- The 22 bytes of READ_CIRCUIT (09 R182, 10 R193). -/
def State.circuitReport (s : State) (c : CircuitId) : List Byte :=
  let k := s.circuits.get c
  let d := s.doses.get c
  byteOf (circuitNumber c) ++ byteOf k.wanted ++ byteOf k.minimum ++ byteOf k.mode.code ++ valueBytes 2 k.demand
    ++ byteOf (bitsValue [k.attended, k.confirmed, s.pathOpen.get c, s.flowProven c, s.bulkLow])
    ++ valueBytes 2 (s.flowRate c)
    ++ byteOf (bitsValue (allFilters.map fun f => (s.filters.get f).on c))
    ++ byteOf (s.doseStateOf c).code ++ byteOf d.reasons.code
    ++ valueBytes 3 d.accumulator ++ byteOf d.owed ++ valueBytes 4 d.delivered ++ valueBytes 2 d.shortfall

/-- The elapsed seconds of a DP hold timer, below its length while it runs (02 R41, 10 R194). How far a running timer
stands is the free value `free` (log entry 7). -/
def HoldTimer.elapsed (t : HoldTimer) (free : Nat) : Nat :=
  match t with
  | .stopped => 0
  | .running n => min (Config.elapsedSeconds free) (n - 1)
  | .expired n => n

/-- The selector position in two bytes, 0xFFFF when unknown (09 R182). -/
def positionBytes : Option Nat → List Byte
  | some p => valueBytes 2 p
  | none => [0xFF#8, 0xFF#8]

/-- The 21 bytes of READ_FILTER (09 R182, 10 R194). -/
def State.filterReport (s : State) (f : FilterId) : List Byte :=
  let r := s.filters.get f
  let ch := s.channels.get f
  byteOf (filterNumber f) ++ byteOf r.state.code ++ byteOf (circuitCode r.circuit)
    ++ byteOf (bitsValue [r.cover, r.releaseOnReturn, r.rinseOwed, r.dpActive])
    ++ valueBytes 4 r.throughput ++ valueBytes 2 r.runTime ++ byteOf (r.dpTimer.elapsed s.free)
    ++ valueBytes 2 r.grace ++ byteOf (faultCode r.faultKind) ++ valueBytes 2 r.backwashCount
    ++ byteOf r.lastOutcome.code ++ positionBytes ch.position ++ byteOf ch.state.code
    ++ byteOf (bitsValue [ch.cwTorque, ch.ccwTorque, ch.detent, ch.home])

/-- The three bytes of a queue entry (09 R182). -/
def QueueEntry.report (e : QueueEntry) : List Byte :=
  byteOf (filterNumber e.filter) ++ byteOf e.reasons.code ++ byteOf e.eligibility.code

/-- The bytes of READ_QUEUE (09 R182, 10 R195). -/
def State.queueReport (s : State) : List Byte :=
  let r := s.line.clean
  byteOf s.queue.length
    ++ byteOf (phaseCode (r.map LineRecord.phase)) ++ byteOf (phaseCode (r.bind LineRecord.heldPhase))
    ++ byteOf (match r with
        | some x => filterNumber x.filter
        | none => 0)
    ++ valueBytes 2 (match r with
        | some x => x.counted
        | none => 0)
    ++ byteOf (bitsValue [s.line.available, s.waste.lowLow, s.waste.bwStart]) ++ valueBytes 3 s.waste.allowance
    ++ (s.queue.map QueueEntry.report).flatten

/-- The five bytes of READ_NOTICES (09 R176, R181). -/
def Port.noticeReport (q : Port) : List Byte :=
  noticeBytes q.notices ++ byteOf (linkErrorCode q.linkError)
    ++ byteOf (match q.interlock with
        | some r => r.code
        | none => 0)

/-- A response as the port sends it: kind, status, length, parameters and check (09 R169). -/
def Response.bytes (r : Response) : List Byte :=
  let body := r.kind :: r.status.code :: BitVec.ofNat 8 r.params.length :: r.params
  body ++ [xorBytes body]

/-- The EMPTY response (09 R169). -/
def Response.empty : Response :=
  { kind := 0#8, status := .done, params := [] }

end Sys2Proof.Machine
end

