-- ==== Sys2Proof/Machine/Requests.lean ====
section
/-! DEFINITION. The requests (10, 11): the checks of R186 and the effect of each kind on the block that owns it. Every
request answers with a status, the parameters of its response and the state that it leaves. -/

namespace Sys2Proof.Machine

/-- What becomes of a request in its event (10 R184). -/
structure Answer where
  status : Status
  params : List Byte
  state : State

/-- A refusal, which changes nothing and carries no parameters (10 R184, 09 R181). -/
def State.refuse (s : State) (status : Status) : Answer :=
  { status := status, params := [], state := s }

/-- The port may speak for the circuit: its own, and port P for any (10 R187). -/
def speaksFor (p : PortId) (c : CircuitId) : Bool :=
  p == .plant || p == .circuit c

/-- The port has authority over a filter: by its assigned circuit as it stands, and port P over any (10 R187). -/
def State.ownsFilter (s : State) (p : PortId) (f : FilterId) : Bool :=
  match (s.filters.get f).circuit with
  | some c => speaksFor p c
  | none => p == .plant

/-! ## Circuit demands (08, 10 section 10.3) -/

/-- A pair W, M stored for a circuit, a change being delivered to the allocator and to the queue (08 R156). -/
def State.storeDemand (s : State) (c : CircuitId) (wanted minimum : Nat) : State :=
  let r := s.circuits.get c
  if r.wanted = wanted ∧ r.minimum = minimum then s
  else (s.updCircuit c fun k => { k with wanted := wanted, minimum := minimum }).needPass.needEval.needGrant

/-- SET_DEMAND (08 R156, 10 R188). -/
def State.takeSetDemand (s : State) (p : PortId) (params : List Byte) : Answer :=
  match params with
  | [code, w, m] =>
    match circuitOf code with
    | none => s.refuse .refusedRange
    | some c =>
      if speaksFor p c then
        let wanted := min w.toNat 6
        let minimum := min m.toNat wanted
        { status := if wanted = w.toNat ∧ minimum = m.toNat then .done else .clamped
          params := code :: byteOf wanted ++ byteOf minimum
          state := s.storeDemand c wanted minimum }
      else s.refuse .notYours
  | _ => s.refuse .refusedRange

/-- The cap of a mode (08 R158). -/
def Settings.cap (t : Settings) (m : Mode) : Nat :=
  if m = .superchlorinate then t.shockDoseCap else t.doseCap

/-- The stored D of a circuit clamped to the cap of its mode, a change being delivered (08 R157, R159). -/
def State.reclamp (s : State) (c : CircuitId) : State :=
  let r := s.circuits.get c
  let cap := s.settings.cap r.mode
  if cap < r.demand then (s.formDose c cap (s.doses.get c).reasons).needGrant else s

/-- A mode stored for a circuit (08 R157). -/
def State.storeMode (s : State) (c : CircuitId) (m : Mode) : State :=
  if (s.circuits.get c).mode = m then s
  else ((s.updCircuit c fun k => { k with mode := m }).reclamp c).needEval.needGrant

/-- SET_MODE (08 R157, 10 R189). -/
def State.takeSetMode (s : State) (p : PortId) (params : List Byte) : Answer :=
  match params with
  | [code, m] =>
    match circuitOf code with
    | none => s.refuse .refusedRange
    | some c =>
      if speaksFor p c then
        match modeOf m with
        | none => s.refuse .refusedRange
        | some mode => { status := .done, params := [code, m], state := s.storeMode c mode }
      else s.refuse .notYours
  | _ => s.refuse .refusedRange

/-- A dose demand stored and confirmed for a circuit: the channel takes the change of D and of the flag in one event and
forms its state once (08 R158, 07 R150). -/
def State.storeDose (s : State) (c : CircuitId) (demand : Nat) : State :=
  let r := s.circuits.get c
  let t := (s.updCircuit c fun k => { k with confirmed := true }).formDose c demand
    { (s.doses.get c).reasons with unconfirmed := !r.attended }
  if r.demand = demand then t else t.needGrant

/-- SET_DOSE (08 R158, 10 R190). -/
def State.takeSetDose (s : State) (p : PortId) (params : List Byte) : Answer :=
  match params with
  | [code, high, low] =>
    match circuitOf code with
    | none => s.refuse .refusedRange
    | some c =>
      if speaksFor p c then
        let asked := bytesValue [high, low]
        let demand := min asked (s.settings.cap (s.circuits.get c).mode)
        { status := if demand = asked then .done else .clamped
          params := code :: valueBytes 2 demand
          state := s.storeDose c demand }
      else s.refuse .notYours
  | _ => s.refuse .refusedRange

/-! ## Backwash requests (03, 04) -/

/-- REQUEST_BACKWASH for a filter (03 R62, R63). -/
def State.requestBackwash (s : State) (p : PortId) (f : FilterId) (code : Byte) : Answer :=
  let state := (s.filters.get f).state
  if !s.ownsFilter p f then s.refuse .notYours
  else if state = .cleaning then { status := .already, params := [code], state := s }
  else if !state.mayQueue then s.refuse .refusedState
  else
    { status := if (s.entryOf f).isSome then .already else .accepted
      params := [code]
      state := s.fileEntry f { requested := true } }

/-- REQUEST_BACKWASH (03 R62, R63, 10 R191). -/
def State.takeRequestBackwash (s : State) (p : PortId) (params : List Byte) : Answer :=
  match params with
  | [code] =>
    match filterOf code with
    | none => s.refuse .refusedRange
    | some f => s.requestBackwash p f code
  | _ => s.refuse .refusedRange

/-- An entry taken off the queue by a master: BACKWASH_ABORTED to the port of the filter's circuit (03 R64, 04 R85). -/
def State.cancelEntry (s : State) (f : FilterId) : State :=
  (s.dropEntry f).postTo (s.filters.get f).circuit .backwashAborted

/-- The record of the clean of a filter, if it is the one on the Line. -/
def State.cleanOf (s : State) (f : FilterId) : Option LineRecord :=
  match s.line.clean with
  | some r => if r.filter = f then some r else none
  | none => none

/-- ABORT_BACKWASH for a filter (04 R84 to R86). -/
def State.abortBackwash (s : State) (p : PortId) (f : FilterId) (code : Byte) : Answer :=
  if !s.ownsFilter p f then s.refuse .notYours
  else if (s.entryOf f).isSome then { status := .done, params := [code], state := s.cancelEntry f }
  else
    match s.cleanOf f with
    | none => s.refuse .refusedState
    | some r =>
      let x := s.abortClean r
      { status := x.1, params := [code], state := x.2 }

/-- ABORT_BACKWASH (04 R84 to R86, 10 R192). -/
def State.takeAbortBackwash (s : State) (p : PortId) (params : List Byte) : Answer :=
  match params with
  | [code] =>
    match filterOf code with
    | none => s.refuse .refusedRange
    | some f => s.abortBackwash p f code
  | _ => s.refuse .refusedRange

/-- PURGE_ENTRY (03 R64). -/
def State.takePurgeEntry (s : State) (params : List Byte) : Answer :=
  match params with
  | [code] =>
    match filterOf code with
    | none => s.refuse .refusedRange
    | some f =>
      if (s.entryOf f).isSome then
        { status := .done, params := [code]
          state := (s.cancelEntry f).updFilter f fun r => { r with rinseOwed := false } }
      else s.refuse .refusedState
  | _ => s.refuse .refusedRange

/-- Line availability becomes AVAILABLE, a grant event (03 R59, 04 R90). -/
def State.makeAvailable (s : State) : State :=
  State.needGrant { s with line := { s.line with available := true } }

/-- CLEAR_LINE (04 R90). -/
def State.takeClearLine (s : State) : Answer :=
  if s.line.available then { status := .already, params := [], state := s }
  else { status := .done, params := [], state := s.makeAvailable }

/-! ## Reads (10 section 10.5) -/

/-- READ_CIRCUIT (10 R187, R193). -/
def State.takeReadCircuit (s : State) (params : List Byte) : Answer :=
  match params with
  | [code] =>
    match circuitOf code with
    | none => s.refuse .refusedRange
    | some c => { status := .done, params := s.circuitReport c, state := s }
  | _ => s.refuse .refusedRange

/-- READ_FILTER (10 R194). It draws the free value of the hold timer's elapsed seconds (log entry 7). -/
def State.takeReadFilter (s : State) (params : List Byte) : Answer :=
  match params with
  | [code] =>
    match filterOf code with
    | none => s.refuse .refusedRange
    | some f => { status := .done, params := s.filterReport f, state := { s with free := s.free + 1 } }
  | _ => s.refuse .refusedRange

/-- READ_QUEUE (10 R195). -/
def State.takeReadQueue (s : State) : Answer :=
  { status := .done, params := s.queueReport, state := s }

/-- A port with every flag cleared, and their data (09 R176). -/
def Port.clearNotices (q : Port) : Port :=
  { q with notices := 0#24, linkError := none, interlock := none }

/-- READ_NOTICES (09 R176). -/
def State.takeReadNotices (s : State) (p : PortId) : Answer :=
  { status := .done, params := (s.ports.get p).noticeReport, state := s.updPort p Port.clearNotices }

/-- SET_ATTENTION (09 R178): the mask is stored bit for bit. -/
def State.takeSetAttention (s : State) (p : PortId) (params : List Byte) : Answer :=
  { status := .done, params := params
    state := s.updPort p fun q => { q with mask := BitVec.ofNat 24 (bytesValue params) } }

/-- A port as PORT_CLEAR leaves it before its own response is queued (09 R179). -/
def Port.cleared (q : Port) : Port :=
  { q.clearNotices with responses := [], mask := 0xFFFFFF#24 }

/-- PORT_CLEAR (09 R179). -/
def State.takePortClear (s : State) (p : PortId) : Answer :=
  { status := .done, params := [], state := s.updPort p Port.cleared }

/-- PING (10 R196). -/
def State.takePing (s : State) : Answer :=
  { status := .done, params := byteOf s.plant.code, state := s }

/-! ## Settings (11 section 11.3) -/

/-- The stroke unit of a channel was formed again: an accumulator at or above it is clamped to U − 1 (07 R151). -/
def State.clampAccumulator (s : State) (c : CircuitId) : State :=
  s.updDose c fun d =>
    if s.settings.strokeUnit c ≤ d.accumulator then { d with accumulator := s.settings.strokeUnit c - 1 } else d

/-- The demands that a cap governs are clamped to it: those of the circuits in SUPERCHLORINATE, or those of the others
(08 R159). -/
def State.reclampAll (s : State) (shock : Bool) : State :=
  allCircuits.foldl (fun t c => if decide ((t.circuits.get c).mode = .superchlorinate) = shock then t.reclamp c else t) s

/-- A stored value that has changed is delivered to the block that owns the item (11 R199). The other items are read at a
later start or use. -/
def State.deliverSetting (s : State) : Item → State
  | .wasteCap => { s with waste := { s.waste with allowance := min s.waste.allowance s.settings.wasteCap } }
  | .doseCap => s.reclampAll false
  | .shockDoseCap => s.reclampAll true
  | .strokeVolume c => s.clampAccumulator c
  | .hypoStrength => allCircuits.foldl (fun t c => t.clampAccumulator c) s
  | .surgeMode => s.resumeAll
  | .litresPerFlowPulse _ | .flowProofWindow | .throughputLimit | .runTimeLimit | .dpHold | .wasteRate
  | .litresPerWastePulse | .backwashVolume | .rinseVolume | .backwashMaxTime | .rinseMaxTime | .suspendLimit
  | .startSpeed | .runSpeed | .speedStep | .softBand | .startCreep | .seatCreep | .detentSettle
  | .maxStrokeRate _ | .silenceLimit | .priorityOrder => s

/-- A value that passed every check is stored and delivered; the value already stored delivers nothing (11 R200). -/
def State.storeSetting (s : State) (i : Item) (v : Nat) : State :=
  if s.settings.read i = v then s
  else State.deliverSetting { s with settings := s.settings.write i v } i

/-- WRITE_SETTING for an item of the table (11 R200, checks 2 to 4). -/
def State.writeSetting (s : State) (i : Item) (v : Nat) (params : List Byte) : Answer :=
  if i.setupOnly && s.plant != .setup then s.refuse .refusedState
  else if !i.inRange v then s.refuse .refusedRange
  else if s.plant != .setup && !(s.settings.write i v).crossChecked then s.refuse .refusedRange
  else { status := .done, params := params, state := s.storeSetting i v }

/-- WRITE_SETTING (11 R200). -/
def State.takeWriteSetting (s : State) (params : List Byte) : Answer :=
  match params with
  | code :: value =>
    match itemOf code with
    | none => s.refuse .refusedRange
    | some i => s.writeSetting i (bytesValue value) params
  | [] => s.refuse .refusedRange

/-- READ_SETTING (11 R201). -/
def State.takeReadSetting (s : State) (params : List Byte) : Answer :=
  match params with
  | [code] =>
    match itemOf code with
    | none => s.refuse .refusedRange
    | some i => { status := .done, params := code :: valueBytes 4 (s.settings.read i), state := s }
  | _ => s.refuse .refusedRange

/-! ## Starting and restarting the plant (11 sections 11.4 and 11.5) -/

/-- A filter becomes HOMING and its homing travel is filed (01 R4). -/
def State.startHomingOf (s : State) (f : FilterId) : State :=
  (s.moveFilter f .homing id).fileTravel f .closed .homing

/-- The homing of the bank: the plant HOMING, all six filters in the set, and their travels filed in order (11 R202). -/
def State.homeBank (s : State) : State :=
  let t := { s with plant := .homing, bankHoming := Bank.all true }
  allFilters.foldl (fun t f => t.startHomingOf f) t

/-- START_PLANT (11 R202). -/
def State.takeStartPlant (s : State) : Answer :=
  if s.plant ≠ .setup then s.refuse .refusedState
  else if !s.settings.crossChecked then s.refuse .refusedRange
  else { status := .accepted, params := [], state := s.homeBank }

/-- A filter record after RESTART (01 R26, 02 R46). -/
def FilterRecord.restarted (r : FilterRecord) : FilterRecord :=
  { r.enter .unknown 0 with circuit := none, cover := false, releaseOnReturn := false, faultKind := none }

/-- A channel after RESTART (05 R116, 06 R131): the contacts are kept. -/
def Channel.restarted (ch : Channel) : Channel :=
  { ch with
    state := .unreferenced, position := none, speed := 0, residue := 0, creep := 0, dir := none,
    slowLatch := false, overrun := false, seated := false, settleTimer := none, settleStop := none, edge := none,
    homing := none, search := 0, dirOut := false }

/-- Every item of a bank changed in the same way. -/
def mapBank {α : Type} (b : Bank α) (g : α → α) : Bank α :=
  ⟨g b.f1, g b.f2, g b.f3, g b.f4, g b.f5, g b.f6⟩

/-- The blocks take a RESTART: the Filter Table (01 R26), the Backwash Controller and the Line (03 R66, 04 R91), the
Selector Drive (05 R116, 06 R131), the Dose Controller (07 R154) and the ports (09 R180). The path states follow at
the end of the event. -/
def State.restartBlocks (s : State) : State :=
  let t := { s with
    filters := mapBank s.filters FilterRecord.restarted
    queue := []
    line := { s.line with pump := false, clean := none }
    channels := mapBank s.channels Channel.restarted
    requests := Bank.all none
    travelQueue := []
    slots := { first := none, second := none } }
  (t.formAllReasons fun r => { r with notRunning := true }).postAll .restarted

/-- RESTART (11 R204). -/
def State.takeRestart (s : State) : Answer :=
  let t := s.restartBlocks
  { status := .done, params := []
    state := if s.plant = .setup ∧ !s.settings.crossChecked then t else t.homeBank }

/-! ## Maintenance (01 section 1.6, 10 R197) -/

/-- A filter leaves for the PARK stop, its assignment, marks and fault kind cleared (01 R23). -/
def State.park (s : State) (f : FilterId) : State :=
  let t := s.moveFilter f .parking fun r => { r with circuit := none, cover := false, faultKind := none }
  (t.dropEntry f).fileTravel f .park .maintenance

/-- TAKE_OUT_OF_USE for a filter (01 R23, 10 R197). -/
def State.takeOut (s : State) (f : FilterId) (code : Byte) : Answer :=
  match (s.filters.get f).state with
  | .standby => { status := .accepted, params := [code], state := s.park f }
  | .service =>
    { status := .accepted, params := [code]
      state := (s.needPass.postTo (s.filters.get f).circuit .filterLeft).park f }
  | .fault =>
    if (s.channels.get f).position.isSome then { status := .accepted, params := [code], state := s.park f }
    else
      { status := .done, params := [code]
        state := (s.moveFilter f .outOfUse fun r => { r with faultKind := none }).dropEntry f }
  | .unknown | .homing | .joining | .leaving | .cleaning | .parking | .outOfUse => s.refuse .refusedState

/-- TAKE_OUT_OF_USE (01 R23, 10 R197). -/
def State.takeTakeOutOfUse (s : State) (params : List Byte) : Answer :=
  match params with
  | [code] =>
    match filterOf code with
    | none => s.refuse .refusedRange
    | some f => s.takeOut f code
  | _ => s.refuse .refusedRange

/-- RETURN_TO_USE for a filter (01 R24, 10 R197). -/
def State.returnToUse (s : State) (f : FilterId) (code : Byte) : Answer :=
  match (s.filters.get f).state with
  | .outOfUse | .fault =>
    { status := .accepted, params := [code]
      state := (s.moveFilter f .homing fun r => { r with faultKind := none }).fileTravel f .closed .homing }
  | .unknown | .homing | .standby | .joining | .service | .leaving | .cleaning | .parking => s.refuse .refusedState

/-- RETURN_TO_USE (01 R24, 10 R197). -/
def State.takeReturnToUse (s : State) (params : List Byte) : Answer :=
  match params with
  | [code] =>
    match filterOf code with
    | none => s.refuse .refusedRange
    | some f => s.returnToUse f code
  | _ => s.refuse .refusedRange

/-! ## The handler (10 R186) -/

/-- A request that passed checks 1 to 4 goes to the block that owns it (10 R186, check 5). -/
def State.handle (s : State) (p : PortId) (k : Kind) (params : List Byte) : Answer :=
  match k with
  | .setDemand => s.takeSetDemand p params
  | .setMode => s.takeSetMode p params
  | .setDose => s.takeSetDose p params
  | .requestBackwash => s.takeRequestBackwash p params
  | .abortBackwash => s.takeAbortBackwash p params
  | .readCircuit => s.takeReadCircuit params
  | .readFilter => s.takeReadFilter params
  | .readQueue => s.takeReadQueue
  | .readNotices => s.takeReadNotices p
  | .setAttention => s.takeSetAttention p params
  | .portClear => s.takePortClear p
  | .ping => s.takePing
  | .writeSetting => s.takeWriteSetting params
  | .readSetting => s.takeReadSetting params
  | .startPlant => s.takeStartPlant
  | .restart => s.takeRestart
  | .takeOutOfUse => s.takeTakeOutOfUse params
  | .returnToUse => s.takeReturnToUse params
  | .clearLine => s.takeClearLine
  | .purgeEntry => s.takePurgeEntry params

/-- The checks of a known kind in their order: authority, parameter count, plant state (10 R186). -/
def State.check (s : State) (p : PortId) (k : Kind) (params : List Byte) : Option Status :=
  if k.plantOnly && p != .plant then some .notYours
  else if params.length ≠ k.count then some .refusedRange
  else if k.runningOnly && s.plant != .running then some .refusedState
  else none

/-- The answer to a good request frame (10 R186). -/
def State.answer (s : State) (p : PortId) (kind : Byte) (params : List Byte) : Answer :=
  match kindOf kind with
  | none => s.refuse .refusedUnknown
  | some k =>
    match s.check p k params with
    | some status => s.refuse status
    | none => s.handle p k params

end Sys2Proof.Machine
end

