-- ==== Sys2Proof/Machine/Link.lean ====
section
/-! DEFINITION. The link ports (09): a whole frame is one command. Its bytes attend the circuit, and then it collects a
response, is taken as a request, or fails. The meanings of all the commands that arrive by a link stand here. -/

namespace Sys2Proof.Machine

/-! ## Attendance (08 section 8.2) -/

/-- A heard event of a circuit (08 R160). A circuit that becomes ATTENDED delivers the change, as an event of its own that
ends before the frame's request is taken (log entry 28). -/
def State.heardFrom (s : State) (c : CircuitId) : State :=
  let limit := s.settings.silenceLimit
  if (s.circuits.get c).attended then s.updCircuit c fun k => { k with silence := some limit }
  else
    let t := s.updCircuit c fun k => { k with attended := true, confirmed := false, silence := some limit }
    (t.formUnconfirmed c).filterChanged.finishEvent

/-- The whole bytes of a frame attend the port's circuit; those of port P attend none (09 R167, 08 R160). -/
def State.hear (s : State) (p : PortId) (bytes : List Byte) : State :=
  match p, bytes with
  | .circuit c, _ :: _ => s.heardFrom c
  | .circuit _, [] => s
  | .plant, _ => s

/-! ## The frame as the port keeps it -/

/-- The port's receive and transmit state after a frame (09 section 9.1). -/
def State.record (s : State) (p : PortId) (x : FrameTrace) : State :=
  s.updPort p fun q => { q with frame := x }

/-- The bytes that the port shifts out while a request frame of `n` bytes comes in (09 R171). -/
def requestOut (status : Byte) (n : Nat) : List Byte :=
  (status :: List.replicate n 0xFF#8).take n

/-- The receive state of a request frame: kind, length and running check of the bytes up to its check byte (09 R171). DESIGN
CHOICE: of a LENGTH frame too, whose bytes from the third on R172 ignores, the running check takes in the bytes up to the
place where the declared length would put the check byte; and of a TRUNCATED frame that was cut before its kind or its
length was whole, that item is 0 (log entry 36). -/
def requestTrace (role : FrameRole) (bytes : List Byte) (status : Byte) : FrameTrace :=
  { role := role, received := bytes.length, kind := bytes.headD 0#8, length := bytes.getD 1 0#8,
    check := xorBytes (bytes.take ((bytes.getD 1 0#8).toNat + 3)), out := requestOut status bytes.length }

/-- The role in which a failed frame ends: LENGTH and CHECK discard it (09 R172). DESIGN CHOICE: a TRUNCATED frame, which
R172 discards when it has ended, leaves the role it had while it was in progress (log entry 36). -/
def failedRole (e : LinkErrorKind) (bytes : List Byte) : FrameRole :=
  match e with
  | .length | .check => .discarded
  | .truncated => if bytes = [] then .undecided else .request

/-! ## Collecting a response (09 R169, R170) -/

/-- The response that a FETCH frame sends: the head, or the EMPTY response. -/
def Port.toSend (q : Port) : Response :=
  match q.responses with
  | r :: _ => r
  | [] => Response.empty

/-- The bytes a FETCH frame of `n` whole bytes shifts out: the status byte, the response, and 0x00 for every further byte
(09 R168, R169). -/
def fetchOut (status : Byte) (r : Response) (n : Nat) : List Byte :=
  (status :: r.bytes ++ List.replicate n 0#8).take n

/-- The head response leaves the queue when the last bit of its check byte has been sampled (09 R170). -/
def Port.afterFetch (q : Port) (n : Nat) : Port :=
  { q with responses := if q.toSend.bytes.length + 1 ≤ n then q.responses.tail else q.responses }

/-- A FETCH frame of `n` whole bytes (09 R169, R170). DESIGN CHOICE: the kind, length and check of its record, which only a
request frame has, are 0 (log entry 34). -/
def State.fetchFrame (s : State) (p : PortId) (status : Byte) (n : Nat) : State :=
  let out := fetchOut status (s.ports.get p).toSend n
  (s.updPort p fun q => q.afterFetch n).record p
    { role := .fetch, received := n, kind := 0#8, length := 0#8, check := 0#8, out := out }

/-! ## Taking a request (09 R173) -/

/-- A response joins the back of the queue (09 R173, R174). -/
def Port.enqueue (q : Port) (r : Response) : Port :=
  { q with responses := q.responses ++ [r] }

/-- A good request frame: dropped where two responses wait, otherwise taken, its response queued in the same event
(09 R173). What the request brings about follows in that event. -/
def State.takeRequest (s : State) (p : PortId) (kind : Byte) (params : List Byte) : State :=
  if 2 ≤ (s.ports.get p).responses.length then s.post p .requestDropped
  else
    let a := s.answer p kind params
    (a.state.updPort p fun q => q.enqueue { kind := kind, status := a.status, params := a.params }).finishEvent

/-- A frame arrives whole, or is cut short, at a port (09 R167 to R173). -/
def State.receiveFrame (s : State) (p : PortId) (bytes : List Byte) (cut : Bool) : State :=
  let status := s.statusByte p
  match readFrame bytes cut with
  | .nothing => s
  | .fetch => (s.hear p bytes).fetchFrame p status bytes.length
  | .request kind params => ((s.hear p bytes).takeRequest p kind params).record p (requestTrace .request bytes status)
  | .failed e => ((s.hear p bytes).postLinkError p e).record p (requestTrace (failedRole e bytes) bytes status)

/-- A request frame of a kind with the given parameters arrives. -/
def State.receiveRequest (s : State) (p : PortId) (k : Kind) (params : List Byte) :
    Host.Outcome State Fault Refusal :=
  .next (s.receiveFrame p (requestBytes k.code params) false)

/-! ## The commands -/

/-- FETCH (09 R169). -/
def execFetch (p : PortId) (bytes : Nat) (s : State) : Host.Outcome State Fault Refusal :=
  .next (s.receiveFrame p (fetchBytes bytes) false)

/-- LINK_ERROR (09 R172). -/
def execLinkError (p : PortId) (bytes : List Byte) (cut : Bool) (s : State) : Host.Outcome State Fault Refusal :=
  .next (s.receiveFrame p bytes cut)

/-- UNKNOWN_REQUEST (10 R186). -/
def execUnknownRequest (p : PortId) (kind : Byte) (params : List Byte) (s : State) :
    Host.Outcome State Fault Refusal :=
  .next (s.receiveFrame p (requestBytes kind params) false)

/-- SET_DEMAND (08 R156, 10 R188). -/
def execSetDemand (p : PortId) (params : List Byte) (s : State) : Host.Outcome State Fault Refusal :=
  s.receiveRequest p .setDemand params

/-- SET_MODE (08 R157, 10 R189). -/
def execSetMode (p : PortId) (params : List Byte) (s : State) : Host.Outcome State Fault Refusal :=
  s.receiveRequest p .setMode params

/-- SET_DOSE (08 R158, 10 R190). -/
def execSetDose (p : PortId) (params : List Byte) (s : State) : Host.Outcome State Fault Refusal :=
  s.receiveRequest p .setDose params

/-- REQUEST_BACKWASH (03 R62, R63, 10 R191). -/
def execRequestBackwash (p : PortId) (params : List Byte) (s : State) : Host.Outcome State Fault Refusal :=
  s.receiveRequest p .requestBackwash params

/-- ABORT_BACKWASH (04 R84 to R86, 10 R192). -/
def execAbortBackwash (p : PortId) (params : List Byte) (s : State) : Host.Outcome State Fault Refusal :=
  s.receiveRequest p .abortBackwash params

/-- READ_CIRCUIT (10 R193). -/
def execReadCircuit (p : PortId) (params : List Byte) (s : State) : Host.Outcome State Fault Refusal :=
  s.receiveRequest p .readCircuit params

/-- READ_FILTER (10 R194). -/
def execReadFilter (p : PortId) (params : List Byte) (s : State) : Host.Outcome State Fault Refusal :=
  s.receiveRequest p .readFilter params

/-- READ_QUEUE (10 R195). -/
def execReadQueue (p : PortId) (params : List Byte) (s : State) : Host.Outcome State Fault Refusal :=
  s.receiveRequest p .readQueue params

/-- READ_NOTICES (09 R176). -/
def execReadNotices (p : PortId) (params : List Byte) (s : State) : Host.Outcome State Fault Refusal :=
  s.receiveRequest p .readNotices params

/-- SET_ATTENTION (09 R178). -/
def execSetAttention (p : PortId) (params : List Byte) (s : State) : Host.Outcome State Fault Refusal :=
  s.receiveRequest p .setAttention params

/-- PORT_CLEAR (09 R179). -/
def execPortClear (p : PortId) (params : List Byte) (s : State) : Host.Outcome State Fault Refusal :=
  s.receiveRequest p .portClear params

/-- PING (10 R196). -/
def execPing (p : PortId) (params : List Byte) (s : State) : Host.Outcome State Fault Refusal :=
  s.receiveRequest p .ping params

/-- WRITE_SETTING (11 R200). -/
def execWriteSetting (p : PortId) (params : List Byte) (s : State) : Host.Outcome State Fault Refusal :=
  s.receiveRequest p .writeSetting params

/-- READ_SETTING (11 R201). -/
def execReadSetting (p : PortId) (params : List Byte) (s : State) : Host.Outcome State Fault Refusal :=
  s.receiveRequest p .readSetting params

/-- START_PLANT (11 R202). -/
def execStartPlant (p : PortId) (params : List Byte) (s : State) : Host.Outcome State Fault Refusal :=
  s.receiveRequest p .startPlant params

/-- RESTART (11 R204). -/
def execRestart (p : PortId) (params : List Byte) (s : State) : Host.Outcome State Fault Refusal :=
  s.receiveRequest p .restart params

/-- TAKE_OUT_OF_USE (01 R23, 10 R197). -/
def execTakeOutOfUse (p : PortId) (params : List Byte) (s : State) : Host.Outcome State Fault Refusal :=
  s.receiveRequest p .takeOutOfUse params

/-- RETURN_TO_USE (01 R24, 10 R197). -/
def execReturnToUse (p : PortId) (params : List Byte) (s : State) : Host.Outcome State Fault Refusal :=
  s.receiveRequest p .returnToUse params

/-- CLEAR_LINE (04 R90). -/
def execClearLine (p : PortId) (params : List Byte) (s : State) : Host.Outcome State Fault Refusal :=
  s.receiveRequest p .clearLine params

/-- PURGE_ENTRY (03 R64). -/
def execPurgeEntry (p : PortId) (params : List Byte) (s : State) : Host.Outcome State Fault Refusal :=
  s.receiveRequest p .purgeEntry params

end Sys2Proof.Machine
end

