-- ==== Sys2Proof/Machine/Selector.lean ====
section
/-! DEFINITION. The events of a selector (05, 06): the dwell, the profile interval, torque and detent contacts, the settle
timer, and the edges of the home flag. -/

namespace Sys2Proof.Machine

/-! ## Dwell (05 R100) -/

/-- The expiry of a dwell. -/
def State.dwellExpiry (s : State) (f : FilterId) : State :=
  match s.requests.get f with
  | none => s
  | some r =>
    let ch := s.channels.get f
    if ch.state = .dwell then (s.afterStart f (ch.afterDwell r.target s.pauseCondition)).handOut else s

/-- DWELL_EXPIRY (05 R100, 06 R126). -/
def execDwellExpiry (f : FilterId) (s : State) : Host.Outcome State Fault Refusal :=
  .next (s.dwellExpiry f).finishEvent

/-! ## Profile interval (05 sections 5.4 to 5.6, 06 R126 to R129) -/

/-- The surge input slows the channels (05 R112). -/
def State.surgeSlows (s : State) : Bool :=
  s.surge && s.settings.surgeMode != .ignore

/-- The channels must stop for a surge pause (05 R113). -/
def State.surgePauses (s : State) : Bool :=
  s.surge && s.settings.surgeMode == .pause

/-- An interval under SLOW_HOLD with the input active sets the slow latch (05 R112). -/
def State.latchSlow (s : State) (f : FilterId) : State :=
  if s.surge && s.settings.surgeMode == .slowHold then s.updChannel f fun ch => { ch with slowLatch := true } else s

/-- The steps that are left in the present direction (05 R102). -/
def Channel.remaining (ch : Channel) (p : Nat) (target : Stop) : Nat :=
  distance ch.turning p target.position

/-- An interval that emits the steps due at speed `v`, at most `cap` of them, and settles over the target when none
are left (05 R106). -/
def State.emitTowards (s : State) (f : FilterId) (v cap : Nat) (target : Stop) : State :=
  let ch := s.channels.get f
  let n := min (ch.dueSteps v) cap
  let t := s.updChannel f fun ch => ch.emit ch.turning v n (ch.dueResidue v)
  if n = cap then (t.enterSettling f target).handOut else t

/-- An interval with the overrun mark set (05 R109): it brakes without a cap, and at START_SPEED it stops, settling where
that is the new target and dwelling before a fresh start otherwise. -/
def State.overrunInterval (s : State) (f : FilterId) (p : Nat) (target : Stop) : State :=
  let ch := s.channels.get f
  if ch.profile.startSpeed < ch.speed then
    let v := ch.profile.brake ch.speed
    s.updChannel f fun ch => ch.emit ch.turning v (ch.dueSteps v) (ch.dueResidue v)
  else if ch.remaining p target = 0 then (s.enterSettling f target).handOut
  else (s.startTravel f target).handOut

/-- An interval under a surge pause (05 R113): a channel above START_SPEED brakes, one at START_SPEED pauses. -/
def State.surgeInterval (s : State) (f : FilterId) (p : Nat) (target : Stop) : State :=
  let ch := s.channels.get f
  if ch.profile.startSpeed < ch.speed then
    let v := ch.nextSpeed s.settings.seatCreep (ch.remaining p target) true
    if ch.overrun then s.updChannel f fun ch => ch.emit ch.turning v (ch.dueSteps v) (ch.dueResidue v)
    else s.emitTowards f v (ch.remaining p target) target
  else s.updChannel f Channel.pause

/-- An ordinary interval (05 R102, R105, R106). -/
def State.plainInterval (s : State) (f : FilterId) (p : Nat) (target : Stop) : State :=
  let ch := s.channels.get f
  let left := ch.remaining p target
  s.emitTowards f (ch.nextSpeed s.settings.seatCreep left s.surgeSlows) left target

/-- An interval of an ordinary travel: with nothing left it settles at once (05 R102); the overrun stop and the surge pause
have rules of their own. -/
def State.travelInterval (s : State) (f : FilterId) (target : Stop) : State :=
  let t := s.latchSlow f
  let ch := t.channels.get f
  match ch.position with
  | none => t
  | some p =>
    if !ch.overrun && ch.remaining p target = 0 then (t.enterSettling f target).handOut
    else if t.surgePauses then t.surgeInterval f p target
    else if ch.overrun then t.overrunInterval f p target
    else t.plainInterval f p target

/-- A raw edge that would end the homing phase is in its hold (06 R127). -/
def Channel.edgeHeld (ch : Channel) : Bool :=
  match ch.edge, ch.homing with
  | some e, some .clear => !e.rising
  | some e, some .search => e.rising
  | _, _ => false

/-- The steps a CLEAR or SEARCH interval emits: no more than the search counter has left, unless an edge is in its hold
(06 R127, log entry 19). -/
def Channel.searchSteps (ch : Channel) : Nat :=
  let due := ch.dueSteps ch.profile.startSpeed
  if ch.edgeHeld then due else min due (Config.searchLimit - ch.search)

/-- The channel emits `n` steps of a homing travel, which count towards the search counter (06 R126). -/
def Channel.homingStep (ch : Channel) (n : Nat) : Channel :=
  let v := ch.profile.startSpeed
  { ch.emit .cw v n (ch.dueResidue v) with search := min (ch.search + n) Config.searchLimit }

/-- An interval in CLEAR or SEARCH (06 R127). -/
def State.searchInterval (s : State) (f : FilterId) : State :=
  let t := s.updChannel f fun ch => ch.homingStep ch.searchSteps
  let ch := t.channels.get f
  if Config.searchLimit ≤ ch.search && !ch.edgeHeld then t.endTravel f .homeNotFound else t

/-- An interval in APPROACH, at START_SPEED to stop 0 (06 R128). -/
def State.approachInterval (s : State) (f : FilterId) (p : Nat) : State :=
  let ch := s.channels.get f
  let left := distance .cw p 0
  let n := min (ch.dueSteps ch.profile.startSpeed) left
  let t := s.updChannel f fun ch => ch.homingStep n
  if n = left then (t.enterSettling f .closed).handOut else t

/-- An interval of a homing travel (06 R126 to R129). The surge input pauses it, and otherwise changes nothing. DEDUCED:
SLOW_HOLD leaves its slow latch as it is, as R129 says of a homing travel, and not set as 05 R112 says of each MOVING
channel (log entry 32). -/
def State.homingInterval (s : State) (f : FilterId) (phase : HomingPhase) : State :=
  if s.surgePauses then s.updChannel f Channel.pause
  else
    match phase, (s.channels.get f).position with
    | .approach, some p => s.approachInterval f p
    | .approach, none => s
    | .clear, _ => s.searchInterval f
    | .search, _ => s.searchInterval f

/-- A profile interval of a MOVING channel (05 R102). -/
def State.profileInterval (s : State) (f : FilterId) : State :=
  match s.requests.get f with
  | none => s
  | some r =>
    if (s.channels.get f).state = .moving then
      match (s.channels.get f).homing with
      | some phase => s.homingInterval f phase
      | none => s.travelInterval f r.target
    else s

/-- PROFILE_INTERVAL (05 R102). -/
def execProfileInterval (f : FilterId) (s : State) : Host.Outcome State Fault Refusal :=
  .next (s.profileInterval f).finishEvent

/-! ## Torque and detent contacts (06 sections 6.2 to 6.4) -/

/-- A channel whose debounced torque input for a direction takes a level (06 R117). -/
def Channel.setTorque (ch : Channel) (d : Dir) (active : Bool) : Channel :=
  match d with
  | .cw => { ch with cwTorque := active }
  | .ccw => { ch with ccwTorque := active }

/-- A torque input takes a level: its change to active for the present direction of a MOVING channel is a trip (06 R118).
-/
def State.torqueChange (s : State) (f : FilterId) (d : Dir) (active : Bool) : State :=
  let ch := s.channels.get f
  let t := s.updChannel f fun ch => ch.setTorque d active
  if active && !ch.torque d && ch.state == .moving && ch.turning == d then t.endTravel f .jammed else t

/-- TORQUE_TRIP (06 R118). -/
def execTorqueTrip (f : FilterId) (d : Dir) (active : Bool) (s : State) : Host.Outcome State Fault Refusal :=
  .next (s.torqueChange f d active).finishEvent

/-- The detent closes, and during a settle confirms the seat (06 R119). -/
def State.detentClose (s : State) (f : FilterId) : State :=
  let t := s.updChannel f fun ch => { ch with detent := true }
  if (s.channels.get f).state = .settling then (t.seatConfirmed f).handOut else t

/-- DETENT_CLOSE (06 R119). -/
def execDetentClose (f : FilterId) (s : State) : Host.Outcome State Fault Refusal :=
  .next (s.detentClose f).finishEvent

/-- The settle timer expires with the detent open (06 R119). -/
def State.settleTimeout (s : State) (f : FilterId) : State :=
  let ch := s.channels.get f
  if ch.state == .settling && ch.settleTimer.isSome then s.endTravel f .positionLost else s

/-- SETTLE_TIMEOUT (06 R119). -/
def execSettleTimeout (f : FilterId) (s : State) : Host.Outcome State Fault Refusal :=
  .next (s.settleTimeout f).finishEvent

/-- A detent loss of an IDLE channel: the position is unknown, and the holder of the filter takes the report (06 R121). -/
def State.lossAtRest (s : State) (f : FilterId) : State :=
  let t := s.updChannel f fun ch => { ch with state := .faulted, position := none, seated := false }
  if (s.filters.get f).state = .cleaning then t.lineDetentLoss f else t.filterDetentLoss f

/-- The detent opens: with the seated mark set it is a loss, at rest (06 R121) or before the first step of a request
(06 R122). -/
def State.detentOpen (s : State) (f : FilterId) : State :=
  let ch := s.channels.get f
  let t := s.updChannel f fun ch => { ch with detent := false }
  if ch.seated then
    match ch.state with
    | .idle => t.lossAtRest f
    | .waiting | .dwell | .moving | .paused => t.endTravel f .positionLost
    | .unreferenced | .settling | .faulted => t
  else t

/-- DETENT_LOSS_AT_REST (06 R121, R122). -/
def execDetentLossAtRest (f : FilterId) (s : State) : Host.Outcome State Fault Refusal :=
  .next (s.detentOpen f).finishEvent

/-! ## Home flag (06 sections 6.5 and 6.6) -/

/-- The raw edge opens a home edge record: a rising edge while the channel is emitting steps, a falling edge in the CLEAR
phase, whether the channel steps or not (06 R123, R127). -/
def Channel.opensEdge (ch : Channel) (rising : Bool) : Bool :=
  if rising then ch.state == .moving else ch.homing == some .clear

/-- The channel with the record that a raw home flag edge opens (06 R123). -/
def Channel.rawEdge (ch : Channel) (rising : Bool) : Channel :=
  if ch.opensEdge rising then
    { ch with edge := some { position := ch.position, dir := ch.turning, rising := rising, steps := 0 } }
  else ch

/-- The hold of an edge fails: the record that stands is discarded, and a search at its limit that had the edge in its hold
ends HOME_NOT_FOUND (06 R123, R127). -/
def State.homeEdgeFails (s : State) (f : FilterId) : State :=
  let ch := s.channels.get f
  let t := s.updChannel f fun ch => { ch with edge := none }
  if ch.edgeHeld && Config.searchLimit ≤ ch.search then t.endTravel f .homeNotFound else t

/-- The home flag goes to a level: the hold of an edge the other way, if its record stands, fails (06 R123). DEDUCED: the raw
edge back and the confirmation of the other level show the failure as HOME_EDGE_HOLD_FAILS does (log entry 40). -/
def State.homeFlagGoes (s : State) (f : FilterId) (rising : Bool) : State :=
  if (s.channels.get f).edge.any fun e => e.rising != rising then s.homeEdgeFails f else s

/-- A raw edge fails the hold of an edge the other way, and may open a record of its own (06 R123). -/
def State.homeEdgeRaw (s : State) (f : FilterId) (rising : Bool) : State :=
  (s.homeFlagGoes f rising).updChannel f fun ch => ch.rawEdge rising

/-- HOME_EDGE_RAW (06 R123). -/
def execHomeEdgeRaw (f : FilterId) (rising : Bool) (s : State) : Host.Outcome State Fault Refusal :=
  .next (s.homeEdgeRaw f rising).finishEvent

/-- The confirmed edge of an ordinary travel, with the recorded count and direction (06 R124, R125): a drift of up to 8
steps corrects the count, a larger one ends the request. DEDUCED: a correction onto or past the target settles a MOVING
channel with the overrun mark set too (log entry 37). -/
def State.resync (s : State) (f : FilterId) (target : Stop) (e : EdgeRecord) : State :=
  let ch := s.channels.get f
  match e.position, ch.position with
  | some recorded, some p =>
    let x := drift e.dir recorded
    if x.natAbs ≤ 8 then
      let t := s.updChannel f fun ch => { ch with position := some (corrected p x) }
      let onward := forward ch.turning x
      if ch.state = .moving ∧ 0 < onward ∧ (ch.remaining p target : Int) ≤ onward then
        (t.enterSettling f target).handOut
      else t
    else s.endTravel f .positionLost
  | _, _ => s

/-- The confirmed rising edge that ends SEARCH (06 R128): the count is 1595 and the steps since the raw edge; short of 0
the channel approaches, at 0 it settles, past 0 it makes an ordinary start. -/
def State.homeFound (s : State) (f : FilterId) (e : EdgeRecord) : State :=
  let found := fun (ch : Channel) =>
    { ch with position := some ((1595 + e.steps) % Config.revolution), homing := some .approach, search := 0 }
  let t := s.updChannel f found
  if e.steps < 5 then t
  else if e.steps = 5 then (t.enterSettling f .closed).handOut
  else
    let u := t.updChannel f fun ch => { ch with homing := none, speed := 0, residue := 0 }
    if (s.channels.get f).state = .moving then (u.startTravel f .closed).handOut else u

/-- A channel state in which a confirmed edge acts (06 R123). -/
def ChannelState.takesEdge : ChannelState → Bool
  | .moving | .paused | .dwell | .settling => true
  | .unreferenced | .idle | .waiting | .faulted => false

/-- The record of a confirmed rising edge is taken by the kind of the travel (06 R123, R127). DESIGN CHOICE: in APPROACH
the manual gives it no effect, and in CLEAR it is no edge of the phase, so the record is dropped (log entry 33). -/
def State.takeRise (s : State) (f : FilterId) (e : EdgeRecord) : State :=
  match s.requests.get f with
  | none => s
  | some r =>
    if (s.channels.get f).state.takesEdge then
      match (s.channels.get f).homing with
      | some .search => s.homeFound f e
      | none => s.resync f r.target e
      | some .clear | some .approach => s
    else s

/-- A confirmed falling edge ends CLEAR, wherever its hold began (06 R127). -/
def State.takeFall (s : State) (f : FilterId) : State :=
  if (s.channels.get f).state.takesEdge && (s.channels.get f).homing == some .clear then
    s.updChannel f fun ch => { ch with homing := some .search, search := 0 }
  else s

/-- The 20 ms hold of an edge confirms: the debounced level follows. A rising edge is taken from its record, without which
it is only reported (06 R123); a falling edge needs none (06 R127). -/
def State.homeEdgeConfirmed (s : State) (f : FilterId) (rising : Bool) : State :=
  let u := (s.updChannel f fun ch => { ch with home := rising }).homeFlagGoes f rising
  let t := u.updChannel f fun ch => { ch with edge := none }
  if rising then
    match (u.channels.get f).edge with
    | none => t
    | some e => t.takeRise f e
  else t.takeFall f

/-- HOME_EDGE_CONFIRMED (06 R124, R125, R127, R128). -/
def execHomeEdgeConfirmed (f : FilterId) (rising : Bool) (s : State) : Host.Outcome State Fault Refusal :=
  .next (s.homeEdgeConfirmed f rising).finishEvent

/-- HOME_EDGE_HOLD_FAILS (06 R123, R127). -/
def execHomeEdgeHoldFails (f : FilterId) (s : State) : Host.Outcome State Fault Refusal :=
  .next (s.homeEdgeFails f).finishEvent

end Sys2Proof.Machine
end

