-- ==== Sys2Proof/Machine/Supervision.lean ====
section
/-! DEFINITION. The events of the supervisor, the surge input, the Dose Channels and the reset pin (05, 07, 08, 11): plant
stop, surge, bulk tank, silence, pacing and stroke timers, and power-on. -/

namespace Sys2Proof.Machine

/-! ## Plant stop (08 section 8.3) -/

/-- Plant stop becomes active: the notices, and the reactions of the Selector Drive, the Line and the Dose Controller
(08 R164, 05 R110, 04 R82, 07 R146). -/
def State.stopPlant (s : State) : State :=
  let t := State.postAll { s with stopActive := true } .plantStopped
  (t.pauseMoving.lineStop).formAllReasons fun r => { r with plantStop := true }

/-- The chain reads open for its debounce: the first reading changes nothing else (08 R163), a later one is plant stop
becoming active. -/
def State.stopOpens (s : State) : State :=
  if !s.stopRead then { s with stopRead := true }
  else if s.stopActive then s
  else s.stopPlant

/-- PLANT_STOP_OPENS (08 R163, R164). -/
def execPlantStopOpens (s : State) : Host.Outcome State Fault Refusal :=
  .next s.stopOpens.finishEvent

/-- The three reactions to a release that may come in any order (08 R164, 04 R83). -/
def State.release (s : State) : ReleaseOrder → State
  | .resumeRecoverPass => s.resumeAll.lineRecover.takePass
  | .resumePassRecover => s.resumeAll.takePass.lineRecover
  | .recoverResumePass => s.lineRecover.resumeAll.takePass
  | .recoverPassResume => s.lineRecover.takePass.resumeAll
  | .passResumeRecover => s.takePass.resumeAll.lineRecover
  | .passRecoverResume => s.takePass.lineRecover.resumeAll

/-- Plant stop is released. PLANT_RELEASED is posted only where a stop was announced, which the first reading is not
(08 R163). The order of the reactions is the free value that `free` draws (log entry 8). -/
def State.releasePlant (s : State) : State :=
  let t := { s with stopActive := false, stopRead := true, free := s.free + 1 }
  let u := if s.stopRead then t.postAll .plantReleased else t
  let v := u.formAllReasons fun r => { r with plantStop := false }
  (v.release (Config.releaseOrder s.free)).filterChanged

/-- The chain reads closed for its debounce (08 R163). -/
def State.stopCloses (s : State) : State :=
  if s.stopActive then s.releasePlant else s

/-- PLANT_STOP_RELEASE (08 R163, R164). -/
def execPlantStopRelease (s : State) : Host.Outcome State Fault Refusal :=
  .next s.stopCloses.finishEvent

/-! ## Surge input and bulk tank -/

/-- The surge input takes a level; its clearing resumes the paused channels and hands out slots (05 R112, R111, R95). -/
def State.surgeChange (s : State) (active : Bool) : State :=
  if s.surge = active then s
  else if active then { s with surge := true }
  else State.resumeAll { s with surge := false }

/-- SURGE_CHANGE (05 R112). -/
def execSurgeChange (active : Bool) (s : State) : Host.Outcome State Fault Refusal :=
  .next (s.surgeChange active).finishEvent

/-- BULK_LOW takes a level: the reason BULK_EMPTY of all four channels, and BULK_EMPTY to port P at a change to active
(07 R147). -/
def State.bulkLowChange (s : State) (active : Bool) : State :=
  if s.bulkLow = active then s
  else
    let t := State.formAllReasons { s with bulkLow := active } fun r => { r with bulkEmpty := active }
    if active then t.post .plant .bulkEmpty else t

/-- BULK_LOW_CHANGE (07 R147). -/
def execBulkLowChange (active : Bool) (s : State) : Host.Outcome State Fault Refusal :=
  .next (s.bulkLowChange active).finishEvent

/-! ## Silence (08 R161) -/

/-- The expiry of a circuit's silence timer. -/
def State.silenceExpiry (s : State) (c : CircuitId) : State :=
  let r := s.circuits.get c
  if r.attended && r.silence.isSome then
    let t := s.updCircuit c fun k => { k with attended := false, confirmed := false, silence := none }
    ((t.post .plant .unattended).formUnconfirmed c).filterChanged
  else s

/-- SILENCE_TIMER_EXPIRY (08 R161). -/
def execSilenceTimerExpiry (c : CircuitId) (s : State) : Host.Outcome State Fault Refusal :=
  .next (s.silenceExpiry c).finishEvent

/-! ## Strokes (07 section 7.3) -/

/-- The expiry of a channel's pacing timer: the timer stops, and an ACTIVE channel with strokes owed starts one
(07 R138). -/
def State.pacingExpiry (s : State) (c : CircuitId) : State :=
  if (s.doses.get c).pacing.isSome then
    let active := s.doseStateOf c == .active
    s.updDose c fun d =>
      let d' := { d with pacing := none }
      if active then d'.tryStroke (s.settings.pacingInterval c) else d'
  else s

/-- PACING_TIMER_EXPIRY (07 R138). -/
def execPacingTimerExpiry (c : CircuitId) (s : State) : Host.Outcome State Fault Refusal :=
  .next (s.pacingExpiry c)

/-- STROKE_TIMER_EXPIRY: DOSE goes low (07 R139). -/
def execStrokeTimerExpiry (c : CircuitId) (s : State) : Host.Outcome State Fault Refusal :=
  .next (s.updDose c fun d => { d with stroke := false })

/-! ## Power-on (11 R205) -/

/-- A filter record at power-on with its DP switch level as debounced (01 R25). -/
def FilterRecord.poweredOn (active : Bool) : FilterRecord :=
  { FilterRecord.reset with dpActive := active }

/-- The part after RESET_N. The commands that wait and the count of free values are the model's own and stand (log
entry 27). -/
def State.powerOn (s : State) (dp : Bank Bool) : State :=
  { State.reset with
    filters := ⟨FilterRecord.poweredOn dp.f1, FilterRecord.poweredOn dp.f2, FilterRecord.poweredOn dp.f3,
                FilterRecord.poweredOn dp.f4, FilterRecord.poweredOn dp.f5, FilterRecord.poweredOn dp.f6⟩
    free := s.free
    pending := s.pending }

/-- POWER_ON (11 R205). -/
def execPowerOn (dp : Bank Bool) (s : State) : Host.Outcome State Fault Refusal :=
  .next (s.powerOn dp)

end Sys2Proof.Machine
end

