-- ==== Sys2Proof/Machine/Dispatch.lean ====
section
/-! DEFINITION. The effect of each command on everything but the queue of commands: one arm for each row of the opcode
table. -/

namespace Sys2Proof.Machine

/-- The effect of a command. -/
def exec (i : Instr) (s : State) : Host.Outcome State Fault Refusal :=
  match i with
  | .powerOn dp => Sys2Proof.Machine.execPowerOn dp s
  | .fetch port bytes => Sys2Proof.Machine.execFetch port bytes s
  | .linkError port bytes cut => Sys2Proof.Machine.execLinkError port bytes cut s
  | .unknownRequest port kind params => Sys2Proof.Machine.execUnknownRequest port kind params s
  | .setDemand port params => Sys2Proof.Machine.execSetDemand port params s
  | .setMode port params => Sys2Proof.Machine.execSetMode port params s
  | .setDose port params => Sys2Proof.Machine.execSetDose port params s
  | .requestBackwash port params => Sys2Proof.Machine.execRequestBackwash port params s
  | .abortBackwash port params => Sys2Proof.Machine.execAbortBackwash port params s
  | .readCircuit port params => Sys2Proof.Machine.execReadCircuit port params s
  | .readFilter port params => Sys2Proof.Machine.execReadFilter port params s
  | .readQueue port params => Sys2Proof.Machine.execReadQueue port params s
  | .readNotices port params => Sys2Proof.Machine.execReadNotices port params s
  | .setAttention port params => Sys2Proof.Machine.execSetAttention port params s
  | .portClear port params => Sys2Proof.Machine.execPortClear port params s
  | .ping port params => Sys2Proof.Machine.execPing port params s
  | .writeSetting port params => Sys2Proof.Machine.execWriteSetting port params s
  | .readSetting port params => Sys2Proof.Machine.execReadSetting port params s
  | .startPlant port params => Sys2Proof.Machine.execStartPlant port params s
  | .restart port params => Sys2Proof.Machine.execRestart port params s
  | .takeOutOfUse port params => Sys2Proof.Machine.execTakeOutOfUse port params s
  | .returnToUse port params => Sys2Proof.Machine.execReturnToUse port params s
  | .clearLine port params => Sys2Proof.Machine.execClearLine port params s
  | .purgeEntry port params => Sys2Proof.Machine.execPurgeEntry port params s
  | .flowPulse circuit => Sys2Proof.Machine.execFlowPulse circuit s
  | .flowProofExpiry circuit => Sys2Proof.Machine.execFlowProofExpiry circuit s
  | .binTimerExpiry => Sys2Proof.Machine.execBinTimerExpiry s
  | .wastePulse => Sys2Proof.Machine.execWastePulse s
  | .runTimeMinute filter => Sys2Proof.Machine.execRunTimeMinute filter s
  | .recheckExpiry filter => Sys2Proof.Machine.execRecheckExpiry filter s
  | .dpSwitchChange filter active => Sys2Proof.Machine.execDpSwitchChange filter active s
  | .dpHoldExpiry filter => Sys2Proof.Machine.execDpHoldExpiry filter s
  | .refillTimerExpiry => Sys2Proof.Machine.execRefillTimerExpiry s
  | .bwStartChange above => Sys2Proof.Machine.execBwStartChange above s
  | .lowLowChange active => Sys2Proof.Machine.execLowLowChange active s
  | .phaseTimerExpiry => Sys2Proof.Machine.execPhaseTimerExpiry s
  | .lineFlowProofExpiry => Sys2Proof.Machine.execLineFlowProofExpiry s
  | .suspendTimerExpiry => Sys2Proof.Machine.execSuspendTimerExpiry s
  | .plantStopOpens => Sys2Proof.Machine.execPlantStopOpens s
  | .plantStopRelease => Sys2Proof.Machine.execPlantStopRelease s
  | .surgeChange active => Sys2Proof.Machine.execSurgeChange active s
  | .bulkLowChange active => Sys2Proof.Machine.execBulkLowChange active s
  | .silenceTimerExpiry circuit => Sys2Proof.Machine.execSilenceTimerExpiry circuit s
  | .pacingTimerExpiry circuit => Sys2Proof.Machine.execPacingTimerExpiry circuit s
  | .strokeTimerExpiry circuit => Sys2Proof.Machine.execStrokeTimerExpiry circuit s
  | .dwellExpiry filter => Sys2Proof.Machine.execDwellExpiry filter s
  | .profileInterval filter => Sys2Proof.Machine.execProfileInterval filter s
  | .torqueTrip filter dir active => Sys2Proof.Machine.execTorqueTrip filter dir active s
  | .detentClose filter => Sys2Proof.Machine.execDetentClose filter s
  | .settleTimeout filter => Sys2Proof.Machine.execSettleTimeout filter s
  | .detentLossAtRest filter => Sys2Proof.Machine.execDetentLossAtRest filter s
  | .homeEdgeRaw filter rising => Sys2Proof.Machine.execHomeEdgeRaw filter rising s
  | .homeEdgeConfirmed filter rising => Sys2Proof.Machine.execHomeEdgeConfirmed filter rising s
  | .homeEdgeHoldFails filter => Sys2Proof.Machine.execHomeEdgeHoldFails filter s

end Sys2Proof.Machine
end

