-- ==== Sys2Proof/Safety.lean ====
section
/-! DEFINITION. The laws of the part, in the terms that statements about it use: what holds between two events, what the
reactions of an event leave alone, and which filters nothing moves. -/

namespace Sys2Proof

/-! ## Commands -/

/-- The command of a request kind. -/
def Kind.command (k : Kind) (p : PortId) (params : List Byte) : Instr :=
  match k with
  | .setDemand => .setDemand p params
  | .setMode => .setMode p params
  | .setDose => .setDose p params
  | .requestBackwash => .requestBackwash p params
  | .abortBackwash => .abortBackwash p params
  | .readCircuit => .readCircuit p params
  | .readFilter => .readFilter p params
  | .readQueue => .readQueue p params
  | .readNotices => .readNotices p params
  | .setAttention => .setAttention p params
  | .portClear => .portClear p params
  | .ping => .ping p params
  | .writeSetting => .writeSetting p params
  | .readSetting => .readSetting p params
  | .startPlant => .startPlant p params
  | .restart => .restart p params
  | .takeOutOfUse => .takeOutOfUse p params
  | .returnToUse => .returnToUse p params
  | .clearLine => .clearLine p params
  | .purgeEntry => .purgeEntry p params

/-- The port that a command arrives at, if it arrives by a link. -/
def Instr.port : Instr → Option PortId
  | .fetch p _ | .linkError p _ _ | .unknownRequest p _ _ => some p
  | .setDemand p _ | .setMode p _ | .setDose p _ | .requestBackwash p _ | .abortBackwash p _ | .readCircuit p _
  | .readFilter p _ | .readQueue p _ | .readNotices p _ | .setAttention p _ | .portClear p _ | .ping p _
  | .writeSetting p _ | .readSetting p _ | .startPlant p _ | .restart p _ | .takeOutOfUse p _ | .returnToUse p _
  | .clearLine p _ | .purgeEntry p _ => some p
  | .powerOn _ | .flowPulse _ | .flowProofExpiry _ | .binTimerExpiry | .wastePulse | .runTimeMinute _
  | .recheckExpiry _ | .dpSwitchChange _ _ | .dpHoldExpiry _ | .refillTimerExpiry | .bwStartChange _
  | .lowLowChange _ | .phaseTimerExpiry | .lineFlowProofExpiry | .suspendTimerExpiry | .plantStopOpens
  | .plantStopRelease | .surgeChange _ | .bulkLowChange _ | .silenceTimerExpiry _ | .pacingTimerExpiry _
  | .strokeTimerExpiry _ | .dwellExpiry _ | .profileInterval _ | .torqueTrip _ _ _ | .detentClose _
  | .settleTimeout _ | .detentLossAtRest _ | .homeEdgeRaw _ _ | .homeEdgeConfirmed _ _
  | .homeEdgeHoldFails _ => none

end Sys2Proof

namespace Sys2Proof.Machine

/-! ## Between two events -/

/-- Nothing is due, and every path state is what the Filter Table makes it (01 R11). -/
structure State.Quiet (s : State) : Prop where
  due : s.due = Due.none
  paths : ∀ c, s.pathOpen.get c = s.hasPath c

/-- The interlock reasons of a circuit as the conditions stand (07 R144 to R149). -/
def State.trueReasons (s : State) (c : CircuitId) : Interlocks :=
  { noPath := !s.pathOpen.get c
    noFlow := !s.flowProven c
    plantStop := s.stopActive
    bulkEmpty := s.bulkLow
    unconfirmed := !(s.circuits.get c).attended || !(s.circuits.get c).confirmed
    notRunning := s.plant != .running }

/-- Every channel holds exactly the reasons whose conditions stand (07 R144 to R149). -/
def State.InterlockLaw (s : State) : Prop :=
  ∀ c, (s.doses.get c).reasons = s.trueReasons c

/-- Every stored setting lies in its item's range (11 R200). -/
def State.SettingsLaw (s : State) : Prop :=
  ∀ i : Item, i.inRange (s.settings.read i) = true

/-- The accumulator is below the stroke unit, and at most eight strokes are owed (07 R137); the totals stay in their
ranges (07 R132). -/
def State.DoseLaw (s : State) : Prop :=
  ∀ c, (s.doses.get c).accumulator < s.settings.strokeUnit c ∧ (s.doses.get c).owed ≤ Config.owedMax
    ∧ (s.doses.get c).delivered ≤ Config.count32Max ∧ (s.doses.get c).shortfall ≤ Config.count16Max

/-- The circuit records keep M ≤ W ≤ 6 and D ≤ 1,000 (08 R155). -/
def State.DemandLaw (s : State) : Prop :=
  ∀ c, (s.circuits.get c).minimum ≤ (s.circuits.get c).wanted ∧ (s.circuits.get c).wanted ≤ 6
    ∧ (s.circuits.get c).demand ≤ 1000

/-- The waste allowance lies between 0 and WASTE_CAP (03 R55). -/
def State.WasteLaw (s : State) : Prop :=
  s.waste.allowance ≤ s.settings.wasteCap

/-- Every response queue holds at most two responses (09 R174). -/
def State.ResponseLaw (s : State) : Prop :=
  ∀ p, (s.ports.get p).responses.length ≤ 2

/-- A filter record's counters in their ranges (01 R2). -/
structure FilterRecord.Ranged (r : FilterRecord) : Prop where
  throughput : r.throughput ≤ Config.throughputMax
  runTime : r.runTime ≤ Config.count16Max
  grace : r.grace ≤ Config.graceLitres
  backwashCount : r.backwashCount ≤ Config.count16Max

/-- Every filter record's counters are in their ranges (01 R2). -/
def State.CounterLaw (s : State) : Prop :=
  ∀ f, (s.filters.get f).Ranged

/-- A rate ring: ten bins of 0 to 65,535, one of them open (02 R32). -/
structure FlowRecord.Ranged (r : FlowRecord) : Prop where
  openBin : r.openBin ≤ Config.count16Max
  length : r.closedBins.length = 9
  closed : ∀ n ∈ r.closedBins, n ≤ Config.count16Max

/-- Every rate ring is one (02 R32). -/
def State.BinLaw (s : State) : Prop :=
  ∀ c, (s.flow.get c).Ranged

/-- A channel's position, residue, start creep and search counter in their ranges (05 R97, 06 R117). -/
structure Channel.Ranged (ch : Channel) : Prop where
  position : ∀ p, ch.position = some p → p < Config.revolution
  residue : ch.residue < 100
  creep : ch.creep ≤ 15
  copied : ch.profile.startCreep ≤ 15
  search : ch.search ≤ Config.searchLimit

/-- The volume counted in the present run phase lies below 50,000 l, the greatest volume a setting gives a run phase; with
no run phase begun it lies below 50,100 l, where a pulse of up to 100 l has ended one (04 R72). -/
def LineRecord.Counted (r : LineRecord) : Prop :=
  r.counted < 50100 ∧ (r.phase.isRun = true ∨ (∃ m, r.phaseTimer = .held m) → r.counted < 50000)

/-- The clean on the Line, if there is one, has its counted volume in range (04 R67, R72). -/
def State.VolumeLaw (s : State) : Prop :=
  ∀ r, s.line.clean = some r → r.Counted

/-- A DP hold timer that was started was started for 1 to 120 s (02 R41, 11 section 11.2). -/
def HoldTimer.Ranged (t : HoldTimer) : Prop :=
  ∀ n, t = .running n ∨ t = .expired n → 1 ≤ n ∧ n ≤ 120

/-- Every DP hold timer is in its range (02 R41). -/
def State.HoldLaw (s : State) : Prop :=
  ∀ f, (s.filters.get f).dpTimer.Ranged

/-- Every channel is in its ranges (05 R97, 06 R117). -/
def State.ChannelLaw (s : State) : Prop :=
  ∀ f, (s.channels.get f).Ranged

/-- Every quantity of the part is in its range, the speeds apart, which SpeedLaw states. -/
structure State.RangeLaw (s : State) : Prop where
  settings : s.SettingsLaw
  doses : s.DoseLaw
  demands : s.DemandLaw
  waste : s.WasteLaw
  responses : s.ResponseLaw
  counters : s.CounterLaw
  bins : s.BinLaw
  channels : s.ChannelLaw
  volume : s.VolumeLaw
  holds : s.HoldLaw

/-- The queue law and the queue's order (03 R47): no two entries for one filter, so at most six; none for a filter in a
state that forbids one; every urgent entry before every entry that is not. -/
structure State.QueueLaw (s : State) : Prop where
  states : ∀ e ∈ s.queue, (s.filters.get e.filter).state.mayQueue = true
  distinct : (s.queue.map QueueEntry.filter).Nodup
  order : s.queue.Pairwise fun a b => b.urgent = true → a.urgent = true

/-- Between two events every entry's recorded eligibility is its eligibility (03 R53). -/
def State.Evaluated (s : State) : Prop :=
  ∀ e ∈ s.queue, e.eligibility = s.eligibilityOf e.filter

/-- In SETUP every filter is UNKNOWN, or FAULT, and no clean is on the Line (01 R25, 11 R198). -/
def State.SetupLaw (s : State) : Prop :=
  s.plant = .setup →
    s.line.clean = none ∧ ∀ f, (s.filters.get f).state = .unknown ∨ (s.filters.get f).state = .fault

/-- The queue law with what it rests on in SETUP. -/
structure State.BankLaw (s : State) : Prop where
  queue : s.QueueLaw
  setup : s.SetupLaw

/-! ## The laws of the drive -/

/-- The channel states of a selector that turns, or that is about to (05 R95). -/
def ChannelState.needsSlot : ChannelState → Bool
  | .dwell | .moving | .paused => true
  | .unreferenced | .idle | .waiting | .settling | .faulted => false

/-- The channel states in which a selector has no travel request (05 R98). -/
def ChannelState.unasked : ChannelState → Bool
  | .unreferenced | .idle | .faulted => true
  | .waiting | .dwell | .moving | .paused | .settling => false

/-- A selector has a request exactly while its channel travels, and the request is WAITING, in its one place of the travel
queue, exactly while the channel is (05 R92, R94, R98). A homing phase is a travel's (06 R117). -/
structure State.RequestLaw (s : State) : Prop where
  asked : ∀ f, s.requests.get f = none ↔ (s.channels.get f).state.unasked = true
  waiting : ∀ f r, s.requests.get f = some r → (r.active = false ↔ (s.channels.get f).state = .waiting)
  queued : ∀ f, f ∈ s.travelQueue ↔ (s.channels.get f).state = .waiting
  distinct : s.travelQueue.Nodup
  homing : ∀ f, (s.channels.get f).homing.isSome = true → (s.channels.get f).state.unasked = false

/-- A channel in DWELL, MOVING or PAUSED holds a travel slot, the two slots are held by different selectors, and a channel
that holds one is in one of these states or in SETTLING (05 R95). -/
structure State.SlotLaw (s : State) : Prop where
  needed : ∀ f, (s.channels.get f).state.needsSlot = true → s.slots.holds f = true
  holder : ∀ f, s.slots.holds f = true →
    (s.channels.get f).state.needsSlot = true ∨ (s.channels.get f).state = .settling
  separate : ∀ f, s.slots.first = some f → s.slots.second ≠ some f

/-- While a selector is stepping its speed lies between START_SPEED and RUN_SPEED as it copied them, and otherwise it is 0
(05 R97, R105); the settings keep START_SPEED at most RUN_SPEED from the start of the plant on (11 R200, R202). -/
structure State.SpeedLaw (s : State) : Prop where
  moving : ∀ f, (s.channels.get f).state = .moving →
    (s.channels.get f).profile.startSpeed ≤ (s.channels.get f).speed ∧
      (s.channels.get f).speed ≤ (s.channels.get f).profile.runSpeed
  still : ∀ f, (s.channels.get f).state ≠ .moving → (s.channels.get f).speed = 0
  copied : ∀ f, s.slots.holds f = true → (s.channels.get f).profile.startSpeed ≤ (s.channels.get f).profile.runSpeed
  checked : s.plant ≠ .setup → s.settings.crossChecked = true

/-- The laws of the Selector Drive, and what they rest on in SETUP, where no selector moves (11 R198). -/
structure State.DriveLaw (s : State) : Prop where
  requests : s.RequestLaw
  slots : s.SlotLaw
  speeds : s.SpeedLaw
  setup : s.SetupLaw
  atRest : s.plant = .setup → ∀ f, s.requests.get f = none

/-! ## The laws of the filters and of the Line -/

/-- The channel of a selector that is seated at a stop with its detent closed, and has nothing to do (01 R3, 04 R69). -/
structure Channel.SeatedAt (ch : Channel) (stop : Stop) : Prop where
  state : ch.state = .idle
  position : ch.position = some stop.position
  seated : ch.seated = true
  detent : ch.detent = true

/-- The travel request of a filter in travel, by its state (01 R4). -/
def FilterRecord.travel (r : FilterRecord) : Option (Stop × Requester) :=
  match r.state with
  | .homing => some (.closed, .homing)
  | .joining => r.circuit.map fun c => (.circuit c, .allocator)
  | .leaving => some (.closed, .allocator)
  | .parking => some (.park, .maintenance)
  | .unknown | .standby | .service | .cleaning | .outOfUse | .fault => none

/-- The assignment of filters to circuits, and the position of a filter in service (01 R3); the travel of each filter that
the Filter Table moves (01 section 1.2, R4); and the timers that run in SERVICE alone (02 R38, R39, R41). -/
structure State.AssignmentLaw (s : State) : Prop where
  assigned : ∀ f, (s.filters.get f).state = .joining ∨ (s.filters.get f).state = .service →
    (s.filters.get f).circuit.isSome = true
  unassigned : ∀ f, (s.filters.get f).circuit.isSome = true →
    (s.filters.get f).state = .joining ∨ (s.filters.get f).state = .service ∨ (s.filters.get f).state = .cleaning
  cover : ∀ f, (s.filters.get f).cover = true → (s.filters.get f).circuit.isSome = true
  oneCover : ∀ f g, (s.filters.get f).cover = true → (s.filters.get g).cover = true →
    (s.filters.get f).circuit = (s.filters.get g).circuit → f = g
  mark : ∀ f, (s.filters.get f).releaseOnReturn = true →
    (s.filters.get f).state = .cleaning ∧ (s.filters.get f).circuit.isSome = true
  seated : ∀ f c, (s.filters.get f).state = .service → (s.filters.get f).circuit = some c →
    (s.channels.get f).SeatedAt (.circuit c)
  travel : ∀ f, (s.filters.get f).state ≠ .cleaning →
    (s.requests.get f).map (fun r => (r.target, r.requester)) = (s.filters.get f).travel
  timers : ∀ f, (s.filters.get f).state ≠ .service → (s.filters.get f).minuteTimer = false ∧
    (s.filters.get f).recheckTimer = false ∧ (s.filters.get f).dpTimer = .stopped
  faults : ∀ f, (s.filters.get f).faultKind.isSome = true ↔ (s.filters.get f).state = .fault
  fresh : s.plant = .setup → ∀ f, (s.filters.get f).state = .unknown

/-- The Line's request for a selector, bound for a stop (04 R68). -/
def State.LineBound (s : State) (f : FilterId) (stop : Stop) : Prop :=
  ∃ r, s.requests.get f = some r ∧ r.target = stop ∧ r.requester = .backwashLine

/-- Where the selector of a clean is in a phase (04 R68, R82): on its way, or seated at the stop of a run phase. In a hold
a travel to such a stop may have ended. -/
def State.PhasePlace (s : State) (r : LineRecord) (held : Bool) : Phase → Prop
  | .toBackwash =>
    s.LineBound r.filter .backwash ∨ (held = true ∧ (s.channels.get r.filter).SeatedAt .backwash)
  | .toRinse => s.LineBound r.filter .rinse ∨ (held = true ∧ (s.channels.get r.filter).SeatedAt .rinse)
  | .returning => s.LineBound r.filter r.returnTarget
  | .backwashRun => (s.channels.get r.filter).SeatedAt .backwash
  | .rinseRun => (s.channels.get r.filter).SeatedAt .rinse
  | .suspended | .stopHeld => False

/-- A clean on the Line (04 R67 to R70, R75, R79, R82). -/
structure State.CleanLaw (s : State) (r : LineRecord) : Prop where
  cleaning : (s.filters.get r.filter).state = .cleaning
  stopHeld : r.phase = .stopHeld ↔ s.stopActive = true
  held : r.heldPhase.isSome = true ↔ r.phase = .suspended ∨ r.phase = .stopHeld
  place : match r.phase with
    | .suspended => ∃ p, r.heldPhase = some p ∧ p.isRun = true ∧ s.PhasePlace r false p
    | .stopHeld => ∃ p, r.heldPhase = some p ∧ s.PhasePlace r true p
    | p => s.PhasePlace r false p
  target : r.returnTarget = s.returnTargetOf r
  running : r.phase.isRun = true → s.waste.lowLow = false
  waiting : ∀ c, (s.channels.get r.filter).state = .waiting → (s.filters.get r.filter).circuit = some c →
    (s.channels.get r.filter).position ∈ [some (Stop.circuit c).position, some Stop.backwash.position,
      some Stop.rinse.position]
  slotless : (s.channels.get r.filter).state = .settling → s.slots.holds r.filter = false →
    (s.filters.get r.filter).circuit.isSome = true → (s.channels.get r.filter).settleStop = some .rinse

/-- The Line record is present exactly while its filter is CLEANING (04 R67), and BWPUMP is on exactly in a run phase
(04 R69). -/
structure State.LineLaw (s : State) : Prop where
  record : ∀ f, (s.filters.get f).state = .cleaning → ∃ r, s.line.clean = some r ∧ r.filter = f
  clean : ∀ r, s.line.clean = some r → s.CleanLaw r
  pump : s.line.pump = true ↔ ∃ r, s.line.clean = some r ∧ r.phase.isRun = true

/-- The laws that the Filter Table, the queue, the Line and the Selector Drive keep together. -/
structure State.WorkLaw (s : State) : Prop where
  quiet : s.Quiet
  bank : s.BankLaw
  evaluated : s.Evaluated
  drive : s.DriveLaw
  assignment : s.AssignmentLaw
  line : s.LineLaw

/-! ## Filters that nothing moves -/

/-- A filter in FAULT or OUT_OF_USE that is in no queue, has no travel and is not on the Line. -/
structure State.Still (s : State) (f : FilterId) : Prop where
  state : (s.filters.get f).state = .fault ∨ (s.filters.get f).state = .outOfUse
  circuit : (s.filters.get f).circuit = none
  queue : ∀ e ∈ s.queue, e.filter ≠ f
  request : s.requests.get f = none
  travel : f ∉ s.travelQueue
  line : ∀ r, s.line.clean = some r → r.filter ≠ f

/-! ## What the reactions of an event leave alone -/

/-- A Dose Channel but for its reasons and a discard of its owed strokes. -/
structure DoseChannel.Kept (d e : DoseChannel) : Prop where
  accumulator : e.accumulator = d.accumulator
  owed : e.owed ≤ d.owed
  pacing : e.pacing = d.pacing
  stroke : e.stroke = d.stroke
  delivered : e.delivered = d.delivered
  shortfall : e.shortfall = d.shortfall

/-- A port but for notices that were added. -/
structure Port.Kept (q r : Port) : Prop where
  responses : r.responses = q.responses
  mask : r.mask = q.mask
  frame : r.frame = q.frame
  linkError : r.linkError = q.linkError
  notices : ∀ n : Notice, q.hasNotice n = true → r.hasNotice n = true

/-- The contacts of a selector and the pulses it has made. -/
structure Channel.Kept (ch ci : Channel) : Prop where
  cwTorque : ci.cwTorque = ch.cwTorque
  ccwTorque : ci.ccwTorque = ch.ccwTorque
  detent : ci.detent = ch.detent
  home : ci.home = ch.home
  pulses : ci.pulses = ch.pulses

/-- What the reactions of an event (passes, the evaluation of the queue, a grant, travels handed out) leave as it was: the
settings, the circuit records, the Flow Monitor, the allowance and the tank switches, the surge, bulk and stop inputs,
what the ports have queued, the Dose Channels' quantities, the contacts of the selectors and the DP switches. -/
structure State.Undisturbed (s t : State) : Prop where
  settings : t.settings = s.settings
  circuits : t.circuits = s.circuits
  flow : t.flow = s.flow
  meters : t.meters = s.meters
  waste : t.waste = s.waste
  available : t.line.available = s.line.available
  surge : t.surge = s.surge
  bulkLow : t.bulkLow = s.bulkLow
  stopActive : t.stopActive = s.stopActive
  stopRead : t.stopRead = s.stopRead
  creditPointer : t.creditPointer = s.creditPointer
  free : t.free = s.free
  pending : t.pending = s.pending
  plant : t.plant = s.plant ∨ t.plant = .running
  ports : ∀ p, (s.ports.get p).Kept (t.ports.get p)
  doses : ∀ c, (s.doses.get c).Kept (t.doses.get c)
  channels : ∀ f, (s.channels.get f).Kept (t.channels.get f)
  switches : ∀ f, (t.filters.get f).dpActive = (s.filters.get f).dpActive

/-! ## Requests -/

/-- The state when the bytes of a frame have attended the port's circuit (09 R167, 08 R160). -/
def State.heard (s : State) (p : PortId) : State :=
  s.hear p [0#8]

/-- The port has room for a response (09 R173). -/
def State.Room (s : State) (p : PortId) : Prop :=
  (s.ports.get p).responses.length < 2

/-- The trace of a good request frame with `n` parameters: the status byte and then 0xFF went out, and the check came to
zero (09 R171). -/
def goodTrace (status kind : Byte) (n : Nat) : FrameTrace :=
  { role := .request, received := n + 3, kind := kind, length := BitVec.ofNat 8 n, check := 0#8,
    out := status :: List.replicate (n + 2) 0xFF#8 }

/-- The state `u` with the response to a request of port `p` queued and its frame recorded. -/
def State.respond (u : State) (p : PortId) (status kind : Byte) (n : Nat) (st : Status) (params : List Byte) : State :=
  u.updPort p fun q =>
    { q with responses := q.responses ++ [{ kind := kind, status := st, params := params }],
             frame := goodTrace status kind n }

/-- The number in bytes `i` to `i + n - 1` of a response's parameters, counted from 1 as the manual's tables count them. -/
def field (bs : List Byte) (i n : Nat) : Nat :=
  bytesValue ((bs.drop (i - 1)).take n)

/-! ## Settled states -/

/-- No slot will be handed out: none is free, no request waits, or a pause condition holds (05 R95). -/
def State.NoHandOut (s : State) : Prop :=
  s.slots.hasFree = false ∨ s.travelQueue = [] ∨ s.pauseCondition = true

/-- The state with a travel request of a selector waiting at the back of the travel queue (05 R93). -/
def State.queuedTravel (s : State) (f : FilterId) (target : Stop) (q : Requester) : State :=
  { (s.setRequest f (some { target := target, requester := q, active := false })).updChannel f
      (fun ch => { ch with state := .waiting }) with
    travelQueue := s.travelQueue ++ [f] }

/-- A travel asked for now waits in the travel queue: the selector has no request, it stands elsewhere than at the target,
and no slot can be handed out (05 R93, R95). -/
structure State.MustWait (s : State) (f : FilterId) (target : Stop) : Prop where
  request : s.requests.get f = none
  elsewhere : ∃ p, (s.channels.get f).position = some p ∧ p ≠ target.position
  held : s.slots.hasFree = false ∨ s.pauseCondition = true

/-- A filter record at rest or in travel outside SERVICE: its service timers are stopped (02 R38, R39, R41). -/
def FilterRecord.outside (r : FilterRecord) (state : FilterState) : FilterRecord :=
  { r with state := state, minuteTimer := false, recheckTimer := false, dpTimer := .stopped }

/-- A filter record in FAULT (01 R9). -/
def FilterRecord.inFault (r : FilterRecord) (kind : FaultKind) : FilterRecord :=
  { r.outside .fault with
    circuit := none, cover := false, releaseOnReturn := false, faultKind := some kind,
    rinseOwed := r.rinseOwed || kind == .unrinsed }

/-- A filter record entering SERVICE: its service timers start, the hold timer if the DP switch is active (02 R38, R39,
R41). -/
def FilterRecord.inService (r : FilterRecord) (dpHold : Nat) : FilterRecord :=
  { r with state := .service, minuteTimer := true, recheckTimer := true,
           dpTimer := if r.dpActive = true then .running dpHold else .stopped }

/-- A filter record as the end of a clean with an outcome leaves its loads (04 R78, R87). -/
def FilterRecord.cleaned (r : FilterRecord) (o : CleanOutcome) : FilterRecord :=
  if o = .complete ∨ o = .short then
    { r with throughput := 0, runTime := 0, grace := 2000, backwashCount := min (r.backwashCount + 1) 65535,
             lastOutcome := o }
  else { r with lastOutcome := o }

/-- The queue without what the entries' evaluation makes of them. -/
def State.entries (s : State) : List (FilterId × Reasons) :=
  s.queue.map fun e => (e.filter, e.reasons)

/-- No grant can be made in the present event, whatever becomes of the Line and the queue (03 R60). -/
def State.NoGrant (s : State) : Prop :=
  s.stopActive = true ∨ s.line.available = false ∨ s.waste.bwStart = false ∨
    s.waste.allowance < s.settings.backwashVolume + s.settings.rinseVolume

/-! ## The end of a travel -/

/-- A channel whose travel has ended in ARRIVED over a stop, its detent closed (05 R96, 06 R119). -/
def Channel.arrivedAt (ch : Channel) (stop : Stop) : Channel :=
  { ch with state := .idle, position := some (200 * stop.number), speed := 0, residue := 0, overrun := false,
            detent := true, seated := true, settleTimer := none, settleStop := none, edge := none, homing := none }

/-- A channel whose travel has ended in a fault, with its count kept or unknown (05 R96, 06 R118, R119). -/
def Channel.failedAt (ch : Channel) (count : Option Nat) : Channel :=
  { ch with state := .faulted, position := count, speed := 0, residue := 0, overrun := false, seated := false,
            settleTimer := none, settleStop := none, edge := none, homing := none }

/-- The state with a selector's request discarded, its slot freed and its channel as the travel's end left it (05 R96). -/
def State.travelEnded (s : State) (f : FilterId) (ch : Channel) : State :=
  { s with
    channels := s.channels.set f ch, requests := s.requests.set f none,
    slots := { first := if s.slots.first = some f then none else s.slots.first,
               second := if s.slots.second = some f then none else s.slots.second } }

/-! ## The Line's travels -/

/-- A Line record that turns to a phase with no phase held and every timer of the phase stopped (04 R72 to R77). -/
def LineRecord.resting (r : LineRecord) (phase : Phase) : LineRecord :=
  { r with phase := phase, heldPhase := none, phaseTimer := .stopped, flowTimer := .stopped, suspendTimer := none }

/-- The return target by the table of 04 R75. -/
def LineRecord.returnStop (r : LineRecord) (x : FilterRecord) : Stop :=
  if r.exitUnrinsed || x.releaseOnReturn then .closed
  else
    match x.circuit with
    | none => .closed
    | some c => .circuit c

/-- The Line with its pump off and its record replaced, and a travel to `target` waiting (04 R74, R75). -/
def State.lineTravels (s : State) (r : LineRecord) (target : Stop) : State :=
  State.queuedTravel { s with line := { s.line with pump := false, clean := some r } } r.filter target .backwashLine

end Sys2Proof.Machine
end

