-- ==== Sys2Proof/WellFormed.lean ====
section
/-! DEFINITION. Which commands are what their row says. A command that is not well-formed still has a meaning: its
frame is taken for what its bytes make it. -/

namespace Sys2Proof

/-- The parameters of a request frame: at most 24, or the frame is a LENGTH error (09 R172). -/
def paramsFit (params : List Byte) : Bool :=
  params.length ≤ Config.maxParams

/-- A kind byte of UNKNOWN_REQUEST: not FETCH (09 R169) and none of the request codes (10 R186). -/
def unknownKind (kind : Byte) : Bool :=
  kind ≠ 0#8 && (kindOf kind).isNone

/-- A frame of LINK_ERROR: one that fails (09 R172). -/
def frameFails (bytes : List Byte) (cut : Bool) : Bool :=
  match readFrame bytes cut with
  | .failed _ => true
  | .nothing | .fetch | .request _ _ => false

/-- The command is what its row of the opcode table says it is. -/
def Instr.wellFormed : Instr → Bool
  | .fetch _ bytes => 1 ≤ bytes
  | .linkError _ bytes cut => frameFails bytes cut
  | .unknownRequest _ kind params => unknownKind kind && paramsFit params
  | .setDemand _ params | .setMode _ params | .setDose _ params | .requestBackwash _ params
  | .abortBackwash _ params | .readCircuit _ params | .readFilter _ params | .readQueue _ params
  | .readNotices _ params | .setAttention _ params | .portClear _ params | .ping _ params
  | .writeSetting _ params | .readSetting _ params | .startPlant _ params | .restart _ params
  | .takeOutOfUse _ params | .returnToUse _ params | .clearLine _ params | .purgeEntry _ params =>
    paramsFit params
  | .powerOn _ | .flowPulse _ | .flowProofExpiry _ | .binTimerExpiry | .wastePulse | .runTimeMinute _
  | .recheckExpiry _ | .dpSwitchChange _ _ | .dpHoldExpiry _ | .refillTimerExpiry | .bwStartChange _
  | .lowLowChange _ | .phaseTimerExpiry | .lineFlowProofExpiry | .suspendTimerExpiry | .plantStopOpens
  | .plantStopRelease | .surgeChange _ | .bulkLowChange _ | .silenceTimerExpiry _ | .pacingTimerExpiry _
  | .strokeTimerExpiry _ | .dwellExpiry _ | .profileInterval _ | .torqueTrip _ _ _ | .detentClose _
  | .settleTimeout _ | .detentLossAtRest _ | .homeEdgeRaw _ _ | .homeEdgeConfirmed _ _
  | .homeEdgeHoldFails _ => true

end Sys2Proof
end

