-- ==== Sys2Proof/Certificates/Slice0/Obligations.lean ====
section
/-! DEFINITION. The statements for the provers, in the order of OBLIGATIONS.json. Where a statement speaks of a choice of the
model, its docstring names the log entry. -/

section

open Sys2Proof Sys2Proof.Machine

/-- A step runs the command at the front of the queue, every command answers a next state, an empty queue idles (00
section 4.4, 10 section 10.1). The idle step is the model's choice (log entry 6), and so is that the meter levels fall
in it, by a free value (log entry 3). -/
def Obligations.StepTakesTheFrontCommand : Prop :=
  (∀ (s : State) (c : Instr) (rest : List Instr), s.pending = c :: rest →
    step s = exec c { s with pending := rest }) ∧
  (∀ (c : Instr) (s : State), ∃ t, exec c s = .next t) ∧
  ∀ s : State, s.pending = [] →
    let low := (∀ c, s.meters.circuits.get c = false) ∧ s.meters.waste = false
    (low → step s = .next s) ∧
    (¬ low → ∃ t, step s = .next t ∧ t = { s with meters := t.meters, free := s.free + 1 } ∧
      (∀ c, t.meters.circuits.get c = true ↔ s.meters.circuits.get c = true ∧ Config.flowMeterFalls s.free c = false) ∧
      (t.meters.waste = true ↔ s.meters.waste = true ∧ Config.wasteMeterFalls s.free = false))

/-- Power-on leaves Plant Control in SETUP with every setting at its default (R205). -/
def Obligations.PowerOnPlantControl : Prop :=
  ∀ (s : State) (dp : Bank Bool), ∃ t, exec (.powerOn dp) s = .next t ∧
    t.plant = .setup ∧
    allItems.map (fun i => (i.code, t.settings.read i)) =
      [(0x01, 10), (0x02, 10), (0x03, 10), (0x04, 10), (0x05, 10), (0x10, 800), (0x11, 168), (0x12, 30),
       (0x20, 40000), (0x21, 200), (0x22, 10), (0x23, 8000), (0x24, 2000), (0x25, 10), (0x26, 5), (0x27, 30),
       (0x30, 100), (0x31, 800), (0x32, 20), (0x33, 100), (0x34, 4), (0x35, 20), (0x36, 500), (0x37, 1),
       (0x40, 250), (0x41, 250), (0x42, 250), (0x43, 250), (0x44, 125), (0x45, 120), (0x46, 120), (0x47, 120),
       (0x48, 120), (0x49, 300), (0x4A, 1000), (0x50, 30), (0x60, 0x01020304)] ∧
    t.bankHoming = Bank.all false ∧
    t.settings.crossChecked = true ∧
    (∀ c, (t.doses.get c).reasons.notRunning = true) ∧
    (∀ p, (t.ports.get p).notices = 0#24) ∧
    (∀ p, (t.statusByte p).extractLsb' 5 2 = 0#2) ∧
    ∃ u, exec (.startPlant .plant []) t = .next u ∧
      (u.ports.get .plant).responses = [{ kind := 0x71#8, status := .accepted, params := [] }]

/-- Power-on gives every block its reset values, and the laws of the part hold in the reset state (01 section 1.7, 02
section 2.9, 03 section 3.8, 05 section 5.8, 06 section 6.8, 07 section 7.7, 08 sections 8.1 and 8.3, 09 section 9.7,
R205). The levels of the DP switches and what stands of the model's own fields are the model's choice (log entries 16
and 27), and so are the copied travel settings that the ranges take in (log entry 17) and the due flags (log entry 9).
-/
def Obligations.PowerOnBlocks : Prop :=
  (∀ (s : State) (dp : Bank Bool), ∃ t, exec (.powerOn dp) s = .next t ∧
    (∀ f, t.filters.get f =
      { state := .unknown, circuit := none, cover := false, releaseOnReturn := false, rinseOwed := false,
        throughput := 0, runTime := 0, dpActive := dp.get f, dpTimer := .stopped, grace := 0, faultKind := none,
        backwashCount := 0, lastOutcome := .none, minuteTimer := false, recheckTimer := false }) ∧
    (∀ c, t.pathOpen.get c = false ∧ t.creditPointer.get c = .f6 ∧
      t.flow.get c = { proofTimer := none, openBin := 0, closedBins := List.replicate 9 0 }) ∧
    t.meters = { circuits := PerCircuit.all false, waste := false } ∧ t.queue = [] ∧
    t.line = { available := true, pump := false, clean := none } ∧
    t.waste = { allowance := 0, lowLow := true, bwStart := false } ∧
    (∀ f, let ch := t.channels.get f
      ch.state = .unreferenced ∧ ch.position = none ∧ ch.speed = 0 ∧ ch.residue = 0 ∧ ch.creep = 0 ∧ ch.dir = none ∧
      ch.slowLatch = false ∧ ch.overrun = false ∧ ch.cwTorque = false ∧ ch.ccwTorque = false ∧ ch.detent = false ∧
      ch.home = false ∧ ch.seated = false ∧ ch.settleTimer = none ∧ ch.edge = none ∧ ch.homing = none ∧
      ch.search = 0 ∧ ch.dirOut = false ∧ t.requests.get f = none) ∧
    t.travelQueue = [] ∧ t.slots = { first := none, second := none } ∧ t.surge = false ∧
    (∀ c, t.doses.get c =
      { reasons := { noPath := true, noFlow := true, plantStop := true, bulkEmpty := true, unconfirmed := true,
                     notRunning := true },
        accumulator := 0, owed := 0, pacing := none, stroke := false, delivered := 0, shortfall := 0 }) ∧
    t.bulkLow = true ∧
    (∀ c, t.circuits.get c =
      { wanted := 0, minimum := 0, mode := .closed, demand := 0, confirmed := false, attended := false,
        silence := none }) ∧
    t.stopActive = true ∧ t.stopRead = false ∧
    (∀ p, let q := t.ports.get p
      q.responses = [] ∧ q.notices = 0#24 ∧ q.linkError = none ∧ q.interlock = none ∧ q.mask = 0xFFFFFF#24 ∧
      q.frame.role = .idle ∧ q.attention = false) ∧
    t.pending = s.pending ∧ t.free = s.free) ∧
  State.reset.RangeLaw ∧ State.reset.Quiet ∧ State.reset.InterlockLaw ∧ State.reset.BankLaw ∧ State.reset.DriveLaw ∧
  State.reset.WorkLaw

/-- A request frame is its request exactly when its check is right, whatever follows (R171). That LINK_ERROR takes any
bytes at all, in the last clause, is the model's choice: a command that is not well-formed is taken for what its bytes
make it (log entry 2). -/
def Obligations.RequestFramesAreReadWhole : Prop :=
  (∀ (kind : Byte) (params tail : List Byte) (check : Byte) (cut : Bool), kind ≠ 0#8 → params.length ≤ 24 →
    let head := kind :: BitVec.ofNat 8 params.length :: params
    requestBytes kind params = head ++ [xorBytes head] ∧
    xorBytes (requestBytes kind params) = 0#8 ∧
    readFrame (head ++ check :: tail) cut =
      if check = xorBytes head then .request kind params else .failed .check) ∧
  ∀ (s : State) (p : PortId) (kind : Byte) (rest : List Byte) (cut : Bool), kind ≠ 0#8 →
    ∃ t, exec (.linkError p (kind :: rest) cut) s = .next t ∧
      (t.ports.get p).frame.out = s.statusByte p :: List.replicate rest.length 0xFF#8

/-- A failed frame is TRUNCATED, LENGTH or CHECK, and does nothing but post LINK_ERROR and attend (R172). -/
def Obligations.FailedFramesReportTheirError : Prop :=
  readFrame [] true = .failed .truncated ∧
  (∀ (kind : Byte) (cut : Bool), kind ≠ 0#8 → readFrame [kind] cut = .failed .truncated) ∧
  (∀ (kind n : Byte) (body : List Byte) (cut : Bool), kind ≠ 0#8 →
    (24 < n.toNat → readFrame (kind :: n :: body) cut = .failed .length) ∧
    (n.toNat ≤ 24 → body.length < n.toNat + 1 → readFrame (kind :: n :: body) cut = .failed .truncated) ∧
    (n.toNat ≤ 24 → n.toNat + 1 ≤ body.length → xorBytes (kind :: n :: body.take (n.toNat + 1)) ≠ 0#8 →
      readFrame (kind :: n :: body) cut = .failed .check)) ∧
  ∀ (s : State) (p : PortId) (bytes : List Byte) (cut : Bool) (e : LinkErrorKind), readFrame bytes cut = .failed e →
    ∃ x : FrameTrace, x.received = bytes.length ∧
      exec (.linkError p bytes cut) s = .next ((s.hear p bytes).updPort p fun q =>
        { q with notices := q.notices ||| 0x080000#24, linkError := some e, frame := x })

/-- A FETCH sends the head response after the status byte and removes it only when it is whole (R169, R170). That the
record of a FETCH frame has kind, length and check 0 is the model's choice (log entry 34), and so is that FETCH
carries only the number of its whole bytes (log entry 25). -/
def Obligations.FetchSendsTheHeadResponse : Prop :=
  (∀ r : Response, r.bytes =
      r.kind :: r.status.code :: BitVec.ofNat 8 r.params.length :: r.params
        ++ [xorBytes (r.kind :: r.status.code :: BitVec.ofNat 8 r.params.length :: r.params)] ∧
    xorBytes r.bytes = 0#8) ∧
  (∀ cut, readFrame [] cut ≠ .fetch) ∧
  ∀ (s : State) (p : PortId) (n : Nat), 1 ≤ n →
    let q := s.ports.get p
    let r : Response := q.responses.headD { kind := 0#8, status := .done, params := [] }
    exec (.fetch p n) s = .next ((s.heard p).updPort p fun u =>
      { u with
        responses := if r.bytes.length + 1 ≤ n then q.responses.tail else q.responses,
        frame := { role := .fetch, received := n, kind := 0#8, length := 0#8, check := 0#8,
                   out := (s.statusByte p :: r.bytes ++ List.replicate n 0#8).take n } })

/-- The status byte shows the stop condition, the plant, attendance, notices, attention and the response count (R168).
That LINK_ERROR takes any bytes at all, in the last clause, is the model's choice (log entry 2). -/
def Obligations.StatusByteBits : Prop :=
  (∀ (s : State) (p : PortId), s.ResponseLaw →
    let b := s.statusByte p
    let q := s.ports.get p
    b.getLsbD 7 = s.stopActive ∧
    b.extractLsb' 5 2 = BitVec.ofNat 2 (match s.plant with | .setup => 0 | .homing => 1 | .running => 2) ∧
    b.getLsbD 4 = (match p with
      | .circuit c => (s.circuits.get c).attended
      | .plant => (s.circuits.get .A).attended && (s.circuits.get .B).attended && (s.circuits.get .C).attended
          && (s.circuits.get .D).attended) ∧
    b.getLsbD 3 = (q.notices != 0#24) ∧ b.getLsbD 2 = q.attention ∧
    b.extractLsb' 0 2 = BitVec.ofNat 2 q.responses.length) ∧
  ∀ (s : State) (p : PortId) (bytes : List Byte) (cut : Bool), bytes ≠ [] →
    ∃ t, exec (.linkError p bytes cut) s = .next t ∧ (t.ports.get p).frame.out.head? = some (s.statusByte p)

/-- A setting written is read back and no other setting changes; every item and every code is the manual's (11 section
11.2, R181, R183). -/
def Obligations.SettingsKeepTheirValues : Prop :=
  (∀ (t : Settings) (i j : Item) (v : Nat), v < 4294967296 → i.inRange v = true →
    (t.write i v).read j = if j = i then v else t.read j) ∧
  (∀ i : Item, i.code < 256 ∧ itemOf (BitVec.ofNat 8 i.code) = some i) ∧
  (∀ b i, itemOf b = some i → i.code = b.toNat) ∧
  (∀ b k, kindOf b = some k → k.code = b) ∧ kindOf 0#8 = none ∧
  (∀ row ∈ [(0x21#8, 3, Kind.setDemand), (0x22#8, 2, .setMode), (0x23#8, 3, .setDose), (0x31#8, 1, .requestBackwash),
      (0x32#8, 1, .abortBackwash), (0x41#8, 1, .readCircuit), (0x42#8, 1, .readFilter), (0x43#8, 0, .readQueue),
      (0x44#8, 0, .readNotices), (0x51#8, 3, .setAttention), (0x52#8, 0, .portClear), (0x53#8, 0, .ping),
      (0x61#8, 5, .writeSetting), (0x62#8, 1, .readSetting), (0x71#8, 0, .startPlant), (0x72#8, 0, .restart),
      (0x73#8, 1, .takeOutOfUse), (0x74#8, 1, .returnToUse), (0x75#8, 0, .clearLine), (0x76#8, 1, .purgeEntry)],
    kindOf row.1 = some row.2.2 ∧ row.2.2.code = row.1 ∧ row.2.2.count = row.2.1) ∧
  (∀ b : Byte,
    filterOf b = (match b.toNat with
      | 1 => some .f1 | 2 => some .f2 | 3 => some .f3 | 4 => some .f4 | 5 => some .f5 | 6 => some .f6 | _ => none) ∧
    circuitOf b = (match b.toNat with | 1 => some .A | 2 => some .B | 3 => some .C | 4 => some .D | _ => none) ∧
    modeOf b = (match b.toNat with
      | 1 => some .openPool | 2 => some .closed | 3 => some .superchlorinate | _ => none)) ∧
  [Status.done, .accepted, .clamped, .already, .tooLate, .refusedRange, .refusedState, .notYours,
    .refusedUnknown].map Status.code = [0x00, 0x01, 0x02, 0x03, 0x04, 0x10, 0x11, 0x12, 0x13] ∧
  [PlantState.setup, .homing, .running].map PlantState.code = [0, 1, 2] ∧
  [FilterState.unknown, .homing, .standby, .joining, .service, .leaving, .cleaning, .parking, .outOfUse,
    .fault].map FilterState.code = [0, 1, 2, 3, 4, 5, 6, 7, 8, 9] ∧
  [none, some FaultKind.jammed, some .positionLost, some .homeNotFound, some .unrinsed, some .mediaBlocked].map
    faultCode = [0, 1, 2, 3, 4, 5] ∧
  [CleanOutcome.none, .complete, .short, .aborted, .noFlow].map CleanOutcome.code = [0, 1, 2, 3, 4] ∧
  [ChannelState.unreferenced, .idle, .waiting, .dwell, .moving, .paused, .settling, .faulted].map
    ChannelState.code = [0, 1, 2, 3, 4, 5, 6, 7] ∧
  [none, some Phase.toBackwash, some .backwashRun, some .toRinse, some .rinseRun, some .returning, some .suspended,
    some .stopHeld].map phaseCode = [0, 1, 2, 3, 4, 5, 6, 7] ∧
  [Eligibility.eligible, .inTransit, .floorBlocked, .needsStop].map Eligibility.code = [0, 1, 2, 3] ∧
  (∀ r : Reasons, r.code = r.throughput.toNat + 2 * r.runTime.toNat + 4 * r.pressure.toNat + 8 * r.requested.toNat
    + 16 * r.retry.toNat) ∧
  [DoseState.off, .active, .interlocked].map DoseState.code = [0, 1, 2] ∧
  (∀ r : Interlocks, r.code = r.noPath.toNat + 2 * r.noFlow.toNat + 4 * r.plantStop.toNat + 8 * r.bulkEmpty.toNat
    + 16 * r.unconfirmed.toNat + 32 * r.notRunning.toNat) ∧
  [none, some LinkErrorKind.truncated, some .check, some .length].map linkErrorCode = [0, 1, 2, 3] ∧
  [Notice.filterJoined, .filterLeft, .backwashStarted, .backwashDone, .backwashAborted, .backwashNeedsStop, .pathLost,
    .pathRestored, .doseInterlocked, .doseSaturated, .flowWithoutPath, .filterFault, .lineUnavailable, .tankLow,
    .bulkEmpty, .strayWasteFlow, .homingDone, .unattended, .requestDropped, .linkError, .plantStopped, .plantReleased,
    .restarted].map Notice.bit = List.range 23

/-- Every step keeps every quantity of the part in its range, the speeds apart (R2, R32, R41, R55, R72, R97, R117,
R132, R137, R155, R174, R199). The start creep's range takes in the copy that a channel holds before its first
hand-out (log entry 17). -/
def Obligations.RangesAreKept : Prop :=
  ∀ s t : State, s.RangeLaw → step s = .next t → t.RangeLaw

/-- Every step keeps each interlock reason equal to its condition and each path state equal to the table's (R11, R144,
R145, R146, R147, R148, R149). -/
def Obligations.InterlocksFollowTheirConditions : Prop :=
  ∀ s t : State, s.Quiet → s.InterlockLaw → step s = .next t → t.Quiet ∧ t.InterlockLaw

/-- Every step keeps the queue law and the order of the queue (R47, R48, R49). -/
def Obligations.QueueLawIsKept : Prop :=
  ∀ s t : State, s.BankLaw → step s = .next t → t.BankLaw ∧ t.queue.length ≤ 6

/-- A stroke starts only with a filter in service, proven flow, a confirmed demand, a running plant, no stop and bulk
(R138). -/
def Obligations.StrokesStartOnlyWhenAllowed : Prop :=
  ∀ (s t : State) (c : CircuitId), s.Quiet → s.InterlockLaw → step s = .next t →
    (s.doses.get c).delivered < (t.doses.get c).delivered →
      (∃ f, (s.filters.get f).state = .service ∧ (s.filters.get f).circuit = some c) ∧ t.flowProven c = true ∧
      (s.circuits.get c).attended = true ∧ (s.circuits.get c).confirmed = true ∧ 0 < (s.circuits.get c).demand ∧
      s.stopActive = false ∧ s.bulkLow = false ∧ s.plant = .running

/-- No other port's command changes what a port has queued, and a circuit port's frame no other circuit's record
(R167, R174, R180, R186, R187, R160). -/
def Obligations.PortsAreSeparate : Prop :=
  (∀ (c : Instr) (s t : State) (p : PortId), (∀ dp, c ≠ .powerOn dp) → c.port ≠ some p → exec c s = .next t →
    (t.ports.get p).responses = (s.ports.get p).responses ∧ (t.ports.get p).mask = (s.ports.get p).mask ∧
    (t.ports.get p).frame = (s.ports.get p).frame ∧ (t.ports.get p).linkError = (s.ports.get p).linkError ∧
    ∀ n : Notice, (s.ports.get p).hasNotice n = true → (t.ports.get p).hasNotice n = true) ∧
  ∀ (i : Instr) (s t : State) (c : CircuitId), i.port = some (.circuit c) → exec i s = .next t →
    (∀ d, d ≠ c → t.circuits.get d = s.circuits.get d) ∧ t.settings = s.settings ∧ t.flow = s.flow ∧
    t.meters = s.meters ∧ t.waste = s.waste ∧ t.line.available = s.line.available ∧ t.surge = s.surge ∧
    t.bulkLow = s.bulkLow ∧ t.stopActive = s.stopActive

/-- Settings change only by WRITE_SETTING or power-on, SETUP ends by START_PLANT or RESTART, RUNNING by RESTART (R198,
R199, R200). -/
def Obligations.PlantStateChangesOnlyByRequest : Prop :=
  (∀ (c : Instr) (s t : State), c.wellFormed = true → exec c s = .next t → t.settings ≠ s.settings →
    (∃ params, c = .writeSetting .plant params) ∨ ∃ dp, c = .powerOn dp) ∧
  ∀ (c : Instr) (s t : State), s.BankLaw → c.wellFormed = true → exec c s = .next t →
    (s.plant = .setup → t.plant ≠ .setup → c = .startPlant .plant [] ∨ c = .restart .plant []) ∧
    (s.plant = .running → t.plant ≠ .running → c = .restart .plant [] ∨ ∃ dp, c = .powerOn dp)

/-- A full port drops a request; else unknown kind, authority, count and plant state are checked in that order (R186,
R184, R181, R173). -/
def Obligations.FirstChecksRefuseInOrder : Prop :=
  (∀ (s : State) (p : PortId), s.Quiet → s.Room p →
    (∀ (kind : Byte) (params : List Byte), kind ≠ 0#8 → kindOf kind = none → params.length ≤ 24 →
        exec (.unknownRequest p kind params) s =
          .next ((s.heard p).respond p (s.statusByte p) kind params.length .refusedUnknown [])) ∧
      ∀ (k : Kind) (params : List Byte), params.length ≤ 24 →
        let refused := fun st => exec (k.command p params) s =
          .next ((s.heard p).respond p (s.statusByte p) k.code params.length st [])
        let plantOnly := k ∈ [.writeSetting, .readSetting, .startPlant, .restart, .takeOutOfUse, .returnToUse, .clearLine,
          .purgeEntry]
        (plantOnly → p ≠ .plant → refused .notYours) ∧
        (¬ (plantOnly ∧ p ≠ .plant) → params.length ≠ k.count → refused .refusedRange) ∧
        (k ∈ [.requestBackwash, .abortBackwash, .takeOutOfUse, .returnToUse] → ¬ (plantOnly ∧ p ≠ .plant) →
          params.length = k.count → (s.heard p).plant ≠ .running → refused .refusedState)) ∧
  ∀ (s : State) (p : PortId) (params : List Byte), params.length ≤ 24 → 2 ≤ (s.ports.get p).responses.length →
    let dropped := fun kind : Byte => (s.heard p).updPort p fun q =>
      { q with notices := q.notices ||| 0x040000#24, frame := goodTrace (s.statusByte p) kind params.length }
    (∀ kind : Byte, kind ≠ 0#8 → exec (.unknownRequest p kind params) s = .next (dropped kind)) ∧
    ∀ k : Kind, exec (k.command p params) s = .next (dropped k.code)

/-- The three reads lay their fields out as the manual's tables do (R182, R183, R194, R33). That the elapsed seconds
of a running timer are a free value, below its length, is the model's choice (log entry 7). -/
def Obligations.ReadLayouts : Prop :=
  ∀ s : State, s.RangeLaw →
    let mode := fun m : Mode => match m with | .openPool => 1 | .closed => 2 | .superchlorinate => 3
    let interlocks := fun r : Interlocks => r.noPath.toNat + 2 * r.noFlow.toNat + 4 * r.plantStop.toNat
      + 8 * r.bulkEmpty.toNat + 16 * r.unconfirmed.toNat + 32 * r.notRunning.toNat
    let dosing := fun (demand : Nat) (r : Interlocks) =>
      if demand = 0 then 0 else if interlocks r = 0 then 1 else 2
    let state := fun x : FilterState => match x with
      | .unknown => 0 | .homing => 1 | .standby => 2 | .joining => 3 | .service => 4 | .leaving => 5 | .cleaning => 6
      | .parking => 7 | .outOfUse => 8 | .fault => 9
    let circuit := fun c : Option CircuitId => match c with
      | none => 0 | some .A => 1 | some .B => 2 | some .C => 3 | some .D => 4
    let fault := fun k : Option FaultKind => match k with
      | none => 0 | some .jammed => 1 | some .positionLost => 2 | some .homeNotFound => 3 | some .unrinsed => 4
      | some .mediaBlocked => 5
    let outcome := fun o : CleanOutcome => match o with
      | .none => 0 | .complete => 1 | .short => 2 | .aborted => 3 | .noFlow => 4
    let channel := fun x : ChannelState => match x with
      | .unreferenced => 0 | .idle => 1 | .waiting => 2 | .dwell => 3 | .moving => 4 | .paused => 5 | .settling => 6
      | .faulted => 7
    let phase := fun p : Option Phase => match p with
      | none => 0 | some .toBackwash => 1 | some .backwashRun => 2 | some .toRinse => 3 | some .rinseRun => 4
      | some .returning => 5 | some .suspended => 6 | some .stopHeld => 7
    let number := fun f : FilterId => match f with | .f1 => 1 | .f2 => 2 | .f3 => 3 | .f4 => 4 | .f5 => 5 | .f6 => 6
    let reasons := fun r : Reasons => r.throughput.toNat + 2 * r.runTime.toNat + 4 * r.pressure.toNat
      + 8 * r.requested.toNat + 16 * r.retry.toNat
    let eligibility := fun e : Eligibility => match e with
      | .eligible => 0 | .inTransit => 1 | .floorBlocked => 2 | .needsStop => 3
    (∀ c : CircuitId, let b := s.circuitReport c
      let k := s.circuits.get c
      let d := s.doses.get c
      b.length = 22 ∧ field b 1 1 = circuit (some c) ∧ field b 2 1 = k.wanted ∧ field b 3 1 = k.minimum ∧
      field b 4 1 = mode k.mode ∧ field b 5 2 = k.demand ∧
      field b 7 1 = k.attended.toNat + 2 * k.confirmed.toNat + 4 * (s.pathOpen.get c).toNat + 8 * (s.flowProven c).toNat
        + 16 * s.bulkLow.toNat ∧
      field b 8 2 = min (((s.flow.get c).openBin + (s.flow.get c).closedBins.sum) * s.settings.litresPerFlowPulse.get c)
        65535 ∧
      field b 10 1 = (allFilters.map fun f => if (s.filters.get f).circuit = some c then 2 ^ (number f - 1) else 0).sum ∧
      field b 11 1 = dosing k.demand d.reasons ∧ field b 12 1 = interlocks d.reasons ∧
      field b 13 3 = d.accumulator ∧ field b 16 1 = d.owed ∧ field b 17 4 = d.delivered ∧
      field b 21 2 = d.shortfall) ∧
    (∀ f : FilterId, let b := s.filterReport f
      let r := s.filters.get f
      let ch := s.channels.get f
      b.length = 21 ∧ field b 1 1 = number f ∧ field b 2 1 = state r.state ∧ field b 3 1 = circuit r.circuit ∧
      field b 4 1 = r.cover.toNat + 2 * r.releaseOnReturn.toNat + 4 * r.rinseOwed.toNat + 8 * r.dpActive.toNat ∧
      field b 5 4 = r.throughput ∧ field b 9 2 = r.runTime ∧
      (match r.dpTimer with
        | .stopped => field b 11 1 = 0
        | .running n => field b 11 1 ≤ n - 1
        | .expired n => field b 11 1 = n) ∧
      field b 12 2 = r.grace ∧ field b 14 1 = fault r.faultKind ∧ field b 15 2 = r.backwashCount ∧
      field b 17 1 = outcome r.lastOutcome ∧ field b 18 2 = ch.position.getD 0xFFFF ∧ field b 20 1 = channel ch.state ∧
      field b 21 1 = ch.cwTorque.toNat + 2 * ch.ccwTorque.toNat + 4 * ch.detent.toNat + 8 * ch.home.toNat) ∧
    (s.queue.length ≤ 6 →
      let b := s.queueReport
      let r := s.line.clean
      b.length = 10 + 3 * s.queue.length ∧ field b 1 1 = s.queue.length ∧
      field b 2 1 = phase (r.map LineRecord.phase) ∧ field b 3 1 = phase (r.bind LineRecord.heldPhase) ∧
      field b 4 1 = ((r.map fun x => number x.filter).getD 0) ∧ field b 5 2 = ((r.map LineRecord.counted).getD 0) ∧
      field b 7 1 = s.line.available.toNat + 2 * s.waste.lowLow.toNat + 4 * s.waste.bwStart.toNat ∧
      field b 8 3 = s.waste.allowance ∧
      ∀ (i : Nat) (e : QueueEntry), s.queue[i]? = some e →
        field b (11 + 3 * i) 1 = number e.filter ∧ field b (12 + 3 * i) 1 = reasons e.reasons ∧
        field b (13 + 3 * i) 1 = eligibility e.eligibility)

/-- READ_CIRCUIT, READ_FILTER and READ_QUEUE report the state of their event and change nothing else (R193, R194,
R195, R187). READ_FILTER counts the free value that it draws (log entry 7). -/
def Obligations.ReadsReportTheState : Prop :=
  ∀ (s : State) (p : PortId) (code : Byte), s.Quiet → s.Room p →
    let u := s.heard p
    let st := s.statusByte p
    exec (.readCircuit p [code]) s = .next (match circuitOf code with
      | some c => u.respond p st 0x41#8 1 .done (u.circuitReport c)
      | none => u.respond p st 0x41#8 1 .refusedRange []) ∧
    exec (.readFilter p [code]) s = .next (match filterOf code with
      | some f => State.respond { u with free := u.free + 1 } p st 0x42#8 1 .done (u.filterReport f)
      | none => u.respond p st 0x42#8 1 .refusedRange []) ∧
    exec (.readQueue p []) s = .next (u.respond p st 0x43#8 0 .done u.queueReport)

/-- PING answers the plant state and READ_SETTING the stored value of its item; neither changes anything (R196, R201).
-/
def Obligations.PingAndReadSettingReport : Prop :=
  (∀ (s : State) (p : PortId), s.Quiet → s.Room p →
    let u := s.heard p
    exec (.ping p []) s = .next (u.respond p (s.statusByte p) 0x53#8 0 .done
      [match u.plant with | .setup => 0#8 | .homing => 1#8 | .running => 2#8]) ∧
    ∀ (k : Kind) (params : List Byte), k ∈ [.ping, .readNotices, .setAttention, .portClear] → params.length ≤ 24 →
      params.length ≠ k.count →
      exec (k.command p params) s =
        .next (u.respond p (s.statusByte p) k.code params.length .refusedRange [])) ∧
  ∀ (s : State) (code : Byte), s.Quiet →
    (s.Room .plant →
      exec (.readSetting .plant [code]) s = .next (match itemOf code with
        | some i =>
          let v := s.settings.read i
          s.respond .plant (s.statusByte .plant) 0x62#8 1 .done
            [code, BitVec.ofNat 8 (v / 16777216), BitVec.ofNat 8 (v / 65536), BitVec.ofNat 8 (v / 256),
             BitVec.ofNat 8 v]
        | none => s.respond .plant (s.statusByte .plant) 0x62#8 1 .refusedRange [])) ∧
    ∀ c : CircuitId, s.Room (.circuit c) →
      exec (.readSetting (.circuit c) [code]) s =
        .next ((s.heard (.circuit c)).respond (.circuit c) (s.statusByte (.circuit c)) 0x62#8 1 .notYours [])

/-- READ_NOTICES copies the port's flags into the response and clears exactly them; PORT_CLEAR empties the port (R176,
R179). -/
def Obligations.ReadNoticesTakesTheFlags : Prop :=
  (∀ (s : State) (p : PortId),
    let u := s.heard p
    let q := u.ports.get p
    (s.Quiet → s.Room p →
      exec (.readNotices p []) s = .next ((u.updPort p fun q =>
          { q with notices := 0#24, linkError := none, interlock := none }).respond p (s.statusByte p) 0x44#8 0 .done
        [q.notices.extractLsb' 16 8, q.notices.extractLsb' 8 8, q.notices.extractLsb' 0 8,
         (match q.linkError with
          | none => 0#8 | some .truncated => 1#8 | some .check => 2#8 | some .length => 3#8),
         BitVec.ofNat 8 ((q.interlock.map fun r => r.noPath.toNat + 2 * r.noFlow.toNat + 4 * r.plantStop.toNat
          + 8 * r.bulkEmpty.toNat + 16 * r.unconfirmed.toNat + 32 * r.notRunning.toNat).getD 0)])) ∧
    (¬ s.Room p → ∃ t, exec (.readNotices p []) s = .next t ∧ (t.ports.get p).linkError = q.linkError ∧
      (t.ports.get p).interlock = q.interlock ∧ ∀ n : Notice, q.hasNotice n = true → (t.ports.get p).hasNotice n = true)) ∧
  ∀ (s : State) (p : PortId),
    (s.Quiet → s.Room p → ∃ t, exec (.portClear p []) s = .next t ∧
      t = (s.heard p).updPort p (fun _ =>
        { responses := [{ kind := 0x52#8, status := .done, params := [] }], notices := 0#24, linkError := none,
          interlock := none, mask := 0xFFFFFF#24, frame := goodTrace (s.statusByte p) 0x52#8 0 }) ∧
      (t.ports.get p).attention = true) ∧
    (¬ s.Room p → ∃ t, exec (.portClear p []) s = .next t ∧
      (t.ports.get p).responses = (s.ports.get p).responses ∧ (t.ports.get p).mask = (s.ports.get p).mask ∧
      (t.ports.get p).hasNotice .requestDropped = true)

/-- SET_ATTENTION stores the mask bit for bit, and the line follows the new mask (R178, R177). -/
def Obligations.SetAttentionStoresTheMask : Prop :=
  ∀ (s : State) (p : PortId) (a b c : Byte), s.Quiet → s.Room p →
    ∃ t, exec (.setAttention p [a, b, c]) s = .next t ∧
      t = (((s.heard p).updPort p fun q => { q with mask := a ++ b ++ c }).respond p (s.statusByte p) 0x51#8 3 .done
        [a, b, c]) ∧
      (t.ports.get p).attention =
        (((s.heard p).ports.get p).notices &&& (a ++ b ++ c) &&& 0x7FFFFF#24 != 0#24 || a.getLsbD 7)

/-- A whole byte on a circuit's port attends the circuit; the silence timer's expiry unattends it; port P attends none
(R160, R161, R162, R167, R148, R142). -/
def Obligations.AttendanceComesAndGoes : Prop :=
  (∀ s : State,
    (∀ c : CircuitId,
      let k := s.circuits.get c
      ∃ t x, exec (.fetch (.circuit c) 1) s = .next t ∧
        t = (s.heard (.circuit c)).updPort (.circuit c) (fun q => { q with frame := x }) ∧
        (k.attended = true → s.heard (.circuit c) =
          s.updCircuit c fun k => { k with silence := some s.settings.silenceLimit }) ∧
        (k.attended = false → s.InterlockLaw →
          (s.updCircuit c fun k =>
            { k with attended := true, confirmed := false, silence := some s.settings.silenceLimit }).Undisturbed
              (s.heard (.circuit c)) ∧
          (t.doses.get c).reasons.unconfirmed = true)) ∧
    s.heard .plant = s) ∧
  ∀ (s : State) (c : CircuitId), s.InterlockLaw →
    let k := s.circuits.get c
    let d := s.doses.get c
    k.attended = true → k.silence.isSome = true →
    let e := { d with accumulator := if k.confirmed = true then 0 else d.accumulator }
    let u := State.post { s with
      circuits := s.circuits.set c { k with attended := false, confirmed := false, silence := none },
      doses := s.doses.set c e } .plant .unattended
    ∃ t, exec (.silenceTimerExpiry c) s = .next t ∧ u.Undisturbed t ∧ (t.doses.get c).reasons.unconfirmed = true ∧
      (doseState k.demand d.reasons = .active → (t.doses.get c).owed = 0 ∧
        (t.ports.get (.circuit c)).hasNotice .doseInterlocked = true) ∧
      (s.Quiet → s.queue = [] → t = { u with doses := t.doses, ports := t.ports })

/-- SET_DEMAND stores W at most 6 and M at most W, says CLAMPED when it altered either, and a change takes a pass
(R156, R188, R187, R185, R14, R21, R4). A filter that two steps of one pass move is asked for once, where its last
change puts it (log entry 13). -/
def Obligations.DemandIsStoredClamped : Prop :=
  ∀ (s : State) (p : PortId) (code w m : Byte), s.Room p →
    let u := s.heard p
    let st := s.statusByte p
    let wanted := min w.toNat 6
    let minimum := min m.toNat wanted
    let answer := fun v : State => v.respond p st 0x21#8 3
      (if wanted = w.toNat ∧ minimum = m.toNat then .done else .clamped)
      [code, BitVec.ofNat 8 wanted, BitVec.ofNat 8 minimum]
    match circuitOf code with
    | none => s.Quiet → exec (.setDemand p [code, w, m]) s = .next (u.respond p st 0x21#8 3 .refusedRange [])
    | some c =>
      if p = .plant ∨ p = .circuit c then
        (∃ t, exec (.setDemand p [code, w, m]) s = .next t ∧
          (answer (u.updCircuit c fun k => { k with wanted := wanted, minimum := minimum })).Undisturbed t) ∧
        (s.Quiet → (u.circuits.get c).wanted = wanted → (u.circuits.get c).minimum = minimum →
          exec (.setDemand p [code, w, m]) s = .next (answer u)) ∧
        (s.Quiet → ¬ ((u.circuits.get c).wanted = wanted ∧ (u.circuits.get c).minimum = minimum) →
          let v := u.updCircuit c fun k => { k with wanted := wanted, minimum := minimum }
          ∃ t, exec (.setDemand p [code, w, m]) s = .next t ∧
            (v.plant ≠ .running ∨ v.stopActive = true →
              t.filters = v.filters ∧ t.requests = v.requests ∧ t.channels = v.channels ∧ t.line = v.line) ∧
            (v.plant = .running → v.stopActive = false → v.queue = [] → v.line.clean = none →
              let x := v.passSteps
              let target := fun f => match (x.state.filters.get f).circuit with
                | some d => Stop.circuit d
                | none => .closed
              (∀ f ∈ x.changed, v.MustWait f (target f)) →
              t.filters = x.state.filters ∧ t.travelQueue = v.travelQueue ++ x.changed ∧ t.line = v.line ∧
              (∀ f, t.requests.get f = if f ∈ x.changed then
                some { target := target f, requester := .allocator, active := false } else v.requests.get f) ∧
              ∀ d ∈ x.left, (t.ports.get (.circuit d)).hasNotice .filterLeft = true))
      else s.Quiet → exec (.setDemand p [code, w, m]) s = .next (u.respond p st 0x21#8 3 .notYours [])

/-- SET_MODE stores a new mode and clamps D to its cap; the mode already held changes nothing (R157, R189, R187,
R134). -/
def Obligations.ModeIsStoredAndDemandReclamped : Prop :=
  ∀ (s : State) (p : PortId) (code m : Byte), s.Room p →
    let u := s.heard p
    let st := s.statusByte p
    let refused := fun status => exec (.setMode p [code, m]) s = .next (u.respond p st 0x22#8 2 status [])
    match circuitOf code with
    | none => s.Quiet → refused .refusedRange
    | some c =>
      if p = .plant ∨ p = .circuit c then
        match modeOf m with
        | none => s.Quiet → refused .refusedRange
        | some mode =>
          let k := u.circuits.get c
          let cap := if mode = .superchlorinate then u.settings.shockDoseCap else u.settings.doseCap
          if k.mode = mode then
            s.Quiet → exec (.setMode p [code, m]) s = .next (u.respond p st 0x22#8 2 .done [code, m])
          else
            ∃ t, exec (.setMode p [code, m]) s = .next t ∧
              (((u.updCircuit c fun k => { k with mode := mode, demand := min k.demand cap }).updDose c fun d =>
                { d with accumulator := if k.demand ≠ 0 ∧ cap = 0 then 0 else d.accumulator }).respond p st 0x22#8 2
                .done [code, m]).Undisturbed t
      else s.Quiet → refused .notYours

/-- SET_DOSE stores D at most the cap of the mode, confirms it, and says CLAMPED when it altered it (R158, R190, R187,
R148, R134, R150). -/
def Obligations.DoseIsStoredClampedAndConfirmed : Prop :=
  ∀ (s : State) (p : PortId) (code high low : Byte), s.Room p → s.InterlockLaw →
    let u := s.heard p
    let st := s.statusByte p
    let asked := 256 * high.toNat + low.toNat
    match circuitOf code with
    | none => s.Quiet → exec (.setDose p [code, high, low]) s = .next (u.respond p st 0x23#8 3 .refusedRange [])
    | some c =>
      if p = .plant ∨ p = .circuit c then
        let k := u.circuits.get c
        let demand := min asked (if k.mode = .superchlorinate then u.settings.shockDoseCap else u.settings.doseCap)
        ∃ t, exec (.setDose p [code, high, low]) s = .next t ∧
          (((u.updCircuit c fun k => { k with demand := demand, confirmed := true }).updDose c fun d =>
            { d with accumulator := if k.demand ≠ 0 ∧ demand = 0 then 0 else d.accumulator }).respond p st 0x23#8 3
            (if demand = asked then .done else .clamped)
            [code, BitVec.ofNat 8 (demand / 256), BitVec.ofNat 8 demand]).Undisturbed t ∧
          (t.doses.get c).reasons.unconfirmed = !k.attended
      else s.Quiet → exec (.setDose p [code, high, low]) s = .next (u.respond p st 0x23#8 3 .notYours [])

/-- REQUEST_BACKWASH is checked in the order of R62 and files the filter at the back of the queue, or merges (R62,
R63, R48, R49, R191). -/
def Obligations.BackwashRequestsAreFiled : Prop :=
  ∀ (s : State) (p : PortId) (code : Byte), s.Room p → (s.heard p).plant = .running →
    let u := s.heard p
    let st := s.statusByte p
    let c := Instr.requestBackwash p [code]
    match filterOf code with
    | none => s.Quiet → exec c s = .next (u.respond p st 0x31#8 1 .refusedRange [])
    | some f =>
      let r := u.filters.get f
      if ¬ (p = .plant ∨ r.circuit.map PortId.circuit = some p) then
        s.Quiet → exec c s = .next (u.respond p st 0x31#8 1 .notYours [])
      else if r.state = .cleaning then s.Quiet → exec c s = .next (u.respond p st 0x31#8 1 .already [code])
      else if r.state ∈ [.unknown, .homing, .parking, .outOfUse, .fault] then
        s.Quiet → exec c s = .next (u.respond p st 0x31#8 1 .refusedState [])
      else
        ∃ t, exec c s = .next t ∧
          (u.respond p st 0x31#8 1 (if ∃ e ∈ u.queue, e.filter = f then .already else .accepted) [code]).Undisturbed t ∧
          (u.Quiet → u.Evaluated → u.QueueLaw → u.grantAllowed = false →
            ((∀ e ∈ u.queue, e.filter ≠ f) → u.eligibilityOf f ≠ .floorBlocked →
              t.queue = u.queue ++ [{ filter := f, reasons := { requested := true }, eligibility := u.eligibilityOf f }] ∧
              t.filters = u.filters ∧ t.requests = u.requests ∧ t.channels = u.channels ∧ t.line = u.line) ∧
            ((∃ e ∈ u.queue, e.filter = f) →
              t.queue = u.queue.map (fun e =>
                if e.filter = f then { e with reasons := { e.reasons with requested := true } } else e) ∧
              t.filters = u.filters ∧ t.requests = u.requests ∧ t.channels = u.channels ∧ t.line = u.line))

/-- ABORT_BACKWASH and PURGE_ENTRY take a queued filter's entry off the queue (R64, R85, R50, R84). -/
def Obligations.QueuedEntriesAreCalledOff : Prop :=
  (∀ (s : State) (p : PortId) (code : Byte) (f : FilterId), s.Room p → filterOf code = some f →
    let u := s.heard p
    u.plant = .running → (p = .plant ∨ ∃ k, p = .circuit k ∧ (u.filters.get f).circuit = some k) →
    (∃ e ∈ u.queue, e.filter = f) →
      ∃ t, exec (.abortBackwash p [code]) s = .next t ∧
        (u.respond p (s.statusByte p) 0x32#8 1 .done [code]).Undisturbed t ∧
        (u.Quiet → u.Evaluated → u.stopActive = true →
          t.queue = u.queue.filter (fun e => e.filter != f) ∧ t.filters = u.filters ∧ t.line = u.line ∧
          t.requests = u.requests ∧ t.channels = u.channels ∧
          ∀ k, (u.filters.get f).circuit = some k → (t.ports.get (.circuit k)).hasNotice .backwashAborted = true)) ∧
  ∀ (s : State) (code : Byte), s.Room .plant →
    match filterOf code with
    | none => s.Quiet → exec (.purgeEntry .plant [code]) s =
        .next (s.respond .plant (s.statusByte .plant) 0x76#8 1 .refusedRange [])
    | some f =>
      ((∀ e ∈ s.queue, e.filter ≠ f) → s.Quiet → exec (.purgeEntry .plant [code]) s =
        .next (s.respond .plant (s.statusByte .plant) 0x76#8 1 .refusedState [])) ∧
      ((∃ e ∈ s.queue, e.filter = f) →
        ∃ t, exec (.purgeEntry .plant [code]) s = .next t ∧
          (s.respond .plant (s.statusByte .plant) 0x76#8 1 .done [code]).Undisturbed t ∧
          (s.Quiet → s.Evaluated → s.stopActive = true →
            t.queue = s.queue.filter (fun e => e.filter != f) ∧
            t.filters = s.filters.set f { s.filters.get f with rinseOwed := false } ∧ t.line = s.line ∧
            t.requests = s.requests ∧ t.channels = s.channels ∧
            ∀ k, (s.filters.get f).circuit = some k → (t.ports.get (.circuit k)).hasNotice .backwashAborted = true))

/-- ABORT_BACKWASH is refused in the order of R84, and for the cleaning filter acts by the phase: DONE, ACCEPTED or
TOO_LATE (R84, R86, R75, R107, R108, R192). -/
def Obligations.AbortActsByTheLinesPhase : Prop :=
  (∀ (s : State) (p : PortId) (code : Byte), s.Room p → s.Quiet → (s.heard p).plant = .running →
    let u := s.heard p
    let refused := fun status => exec (.abortBackwash p [code]) s =
      .next (u.respond p (s.statusByte p) 0x32#8 1 status [])
    match filterOf code with
    | none => refused .refusedRange
    | some f =>
      let owns := p = .plant ∨ ∃ k, p = .circuit k ∧ (u.filters.get f).circuit = some k
      (¬ owns → refused .notYours) ∧
      (owns → (∀ e ∈ u.queue, e.filter ≠ f) → (∀ r, u.line.clean = some r → r.filter ≠ f) → refused .refusedState)) ∧
  ∀ (s : State) (p : PortId) (code : Byte) (f : FilterId) (r : LineRecord), s.Room p → s.Quiet →
    filterOf code = some f →
    let u := s.heard p
    let answer := fun (v : State) (status : Status) => exec (.abortBackwash p [code]) s =
      .next (v.respond p (s.statusByte p) 0x32#8 1 status [code])
    let marked := { r with abortPending := true, outcome := .aborted, requeue := false }
    let gone := { marked with heldPhase := none, phaseTimer := .stopped, flowTimer := .stopped, suspendTimer := none }
    let target := if r.exitUnrinsed || (u.filters.get f).releaseOnReturn then Stop.closed else
      match (u.filters.get f).circuit with
      | none => .closed
      | some c => .circuit c
    let line := fun x : LineRecord => { u with line := { u.line with pump := false, clean := some x } }
    u.plant = .running → (p = .plant ∨ ∃ k, p = .circuit k ∧ (u.filters.get f).circuit = some k) →
    (∀ e ∈ u.queue, e.filter ≠ f) → u.line.clean = some r → r.filter = f →
      (r.phase ∈ [.toRinse, .rinseRun, .returning] ∨
          (r.phase ∈ [.suspended, .stopHeld] ∧ r.heldPhase ∈ [some .toRinse, some .rinseRun, some .returning]) →
        answer u .tooLate) ∧
      (r.phase = .stopHeld → r.heldPhase = some .toBackwash → answer (u.setClean (some marked)) .done) ∧
      (r.phase = .stopHeld → r.heldPhase = some .backwashRun →
        answer (u.setClean (some marked)) (if r.wetted then .accepted else .done)) ∧
      (r.phase = .backwashRun ∨ (r.phase = .suspended ∧ r.heldPhase = some .backwashRun) →
        (r.wetted = true → u.MustWait f .rinse →
          answer ((line { gone with phase := .toRinse }).queuedTravel f .rinse .backwashLine) .accepted) ∧
        (r.wetted = false → u.MustWait f target →
          answer ((line { gone with phase := .returning, returnTarget := target }).queuedTravel f target
            .backwashLine) .done)) ∧
      (∀ q : TravelRequest, r.phase = .toBackwash → u.requests.get f = some q → q.target = .backwash →
        let ch := u.channels.get f
        let turned := (line { gone with phase := .returning, returnTarget := target }).setRequest f
          (some { target := target, requester := .backwashLine, active := q.active })
        (ch.state ∈ [.waiting, .dwell, .paused, .settling] → answer turned .done) ∧
        ∀ (d : Dir) (n : Nat), ch.state = .moving → ch.homing = none → ch.dir = some d → ch.position = some n → n < 1600 →
          let stop := 200 * target.number
          let ahead := match d with
            | .cw => (stop + 1600 - n) % 1600
            | .ccw => (n + 1600 - stop) % 1600
          answer (turned.updChannel f fun ch =>
            { ch with overrun := ahead < ch.profile.brakingSteps u.settings.seatCreep ch.speed }) .done)

/-- CLEAR_LINE makes an unavailable Line AVAILABLE, and answers ALREADY otherwise (R90). -/
def Obligations.ClearLineMakesTheLineAvailable : Prop :=
  (∀ s : State, s.Room .plant →
    let answer := fun (v : State) (status : Status) => v.respond .plant (s.statusByte .plant) 0x75#8 0 status []
    let u := { s with line := { s.line with available := true } }
    (s.line.available = false → ∃ t, exec (.clearLine .plant []) s = .next t ∧ (answer u .done).Undisturbed t ∧
      (s.Quiet → u.grantAllowed = false ∨ u.firstEligible = none → t = answer u .done)) ∧
    (s.line.available = true → s.Quiet → exec (.clearLine .plant []) s = .next (answer s .already))) ∧
  ∀ (s : State) (c : CircuitId), s.Room (.circuit c) → s.Quiet →
    exec (.clearLine (.circuit c) []) s =
      .next ((s.heard (.circuit c)).respond (.circuit c) (s.statusByte (.circuit c)) 0x75#8 0 .notYours [])

/-- WRITE_SETTING is refused by the first of its four checks, and stores the value otherwise (R200, R199). -/
def Obligations.SettingWritesAreChecked : Prop :=
  (∀ s : State, ∀ code a b c d : Byte, s.Quiet → s.Room .plant →
    let v := ((a.toNat * 256 + b.toNat) * 256 + c.toNat) * 256 + d.toNat
    let answer := fun (st : Status) (ps : List Byte) => exec (.writeSetting .plant [code, a, b, c, d]) s =
      .next (s.respond .plant (s.statusByte .plant) 0x61#8 5 st ps)
    match itemOf code with
    | none => answer .refusedRange []
    | some i =>
      let t := s.settings.write i v
      if (i = .seatCreep ∨ i = .priorityOrder) ∧ s.plant ≠ .setup then answer .refusedState []
      else if i.inRange v = false then answer .refusedRange []
      else if s.plant ≠ .setup ∧ ¬ (t.startSpeed ≤ t.runSpeed ∧ 2 * t.softBand ≤ t.runSpeed - t.startSpeed ∧
          t.backwashVolume + t.rinseVolume ≤ t.wasteCap ∧ t.doseCap ≤ t.shockDoseCap ∧
          [t.priority.first, t.priority.second, t.priority.third, t.priority.fourth].Nodup) then
        answer .refusedRange []
      else
        (s.settings.read i = v → answer .done [code, a, b, c, d]) ∧
        ∃ u, exec (.writeSetting .plant [code, a, b, c, d]) s = .next u ∧ u.settings = t ∧
          (u.ports.get .plant).responses =
            (s.ports.get .plant).responses ++ [{ kind := 0x61#8, status := .done, params := [code, a, b, c, d] }]) ∧
  (∀ row ∈ [(0x01, 1, 100), (0x02, 1, 100), (0x03, 1, 100), (0x04, 1, 100), (0x05, 2, 60), (0x10, 10, 9999),
      (0x11, 1, 336), (0x12, 1, 120), (0x20, 1000, 250000), (0x21, 1, 5000), (0x22, 1, 100), (0x23, 500, 50000),
      (0x24, 100, 20000), (0x25, 1, 30), (0x26, 1, 15), (0x27, 5, 120), (0x30, 10, 400), (0x31, 10, 1600),
      (0x32, 1, 100), (0x33, 0, 795), (0x34, 0, 15), (0x35, 0, 60), (0x36, 100, 2000), (0x37, 0, 3), (0x40, 1, 2000),
      (0x41, 1, 2000), (0x42, 1, 2000), (0x43, 1, 2000), (0x44, 1, 200), (0x45, 1, 300), (0x46, 1, 300),
      (0x47, 1, 300), (0x48, 1, 300), (0x49, 0, 1000), (0x4A, 0, 1000), (0x50, 5, 120)],
    ∃ i, itemOf (BitVec.ofNat 8 row.1) = some i ∧ ∀ v, i.inRange v = true ↔ row.2.1 ≤ v ∧ v ≤ row.2.2) ∧
  ∀ a b c d : Byte, Item.priorityOrder.inRange (((a.toNat * 256 + b.toNat) * 256 + c.toNat) * 256 + d.toNat) = true ↔
    ∀ x ∈ [a, b, c, d], 1 ≤ x.toNat ∧ x.toNat ≤ 4

/-- A stored setting changes nothing else, but for the six items whose owners take it at once (R199, R57, R159, R151,
R134, R111). -/
def Obligations.SettingWritesAreDelivered : Prop :=
  ∀ s : State, ∀ code a b c d : Byte, ∀ i : Item, s.Quiet → s.Room .plant → itemOf code = some i →
    let v := ((a.toNat * 256 + b.toNat) * 256 + c.toNat) * 256 + d.toNat
    let w := { s with settings := s.settings.write i v }
    let write := exec (.writeSetting .plant [code, a, b, c, d]) s
    let answer := fun u : State => u.respond .plant (s.statusByte .plant) 0x61#8 5 .done [code, a, b, c, d]
    i.inRange v = true → s.settings.read i ≠ v →
    s.plant = .setup ∨ (i ≠ .seatCreep ∧ i ≠ .priorityOrder ∧ w.settings.crossChecked = true) →
    let clamped := fun k : CircuitId =>
      { w.doses.get k with
        accumulator := if w.settings.strokeUnit k ≤ (w.doses.get k).accumulator then w.settings.strokeUnit k - 1
          else (w.doses.get k).accumulator }
    let governed := fun shock : Bool =>
      let demand := fun k : CircuitId => let r := w.circuits.get k
        if decide (r.mode = .superchlorinate) = shock then min r.demand v else r.demand
      let circuit := fun k : CircuitId => { w.circuits.get k with demand := demand k }
      let dose := fun k : CircuitId =>
        { w.doses.get k with
          accumulator := if (w.circuits.get k).demand ≠ 0 ∧ demand k = 0 then 0 else (w.doses.get k).accumulator }
      ∃ t, write = .next t ∧
        (answer { w with circuits := ⟨circuit .A, circuit .B, circuit .C, circuit .D⟩,
                         doses := ⟨dose .A, dose .B, dose .C, dose .D⟩ }).Undisturbed t
    match i with
    | .wasteCap => write = .next (answer { w with waste := { w.waste with allowance := min w.waste.allowance v } })
    | .doseCap => governed false
    | .shockDoseCap => governed true
    | .strokeVolume k => write = .next (answer { w with doses := w.doses.set k (clamped k) })
    | .hypoStrength => write = .next (answer { w with doses := ⟨clamped .A, clamped .B, clamped .C, clamped .D⟩ })
    | .surgeMode => ∃ t, write = .next t ∧ (answer w).Undisturbed t ∧ (w.pauseCondition = true → t = answer w)
    | _ => write = .next (answer w)

/-- START_PLANT is refused outside SETUP or on a broken cross-check, and otherwise homes the six filters (R202, R4,
R93, R95, R126). -/
def Obligations.StartPlantHomesTheBank : Prop :=
  ∀ s : State, s.Quiet → s.Room .plant →
    let answer := fun (u : State) (st : Status) => u.respond .plant (s.statusByte .plant) 0x71#8 0 st []
    (s.plant ≠ .setup → exec (.startPlant .plant []) s = .next (answer s .refusedState)) ∧
    (s.plant = .setup → s.settings.crossChecked = false →
      exec (.startPlant .plant []) s = .next (answer s .refusedRange)) ∧
    (s.plant = .setup → s.settings.crossChecked = true →
      ∃ t, exec (.startPlant .plant []) s = .next t ∧ (answer { s with plant := .homing } .accepted).Undisturbed t ∧
        ((∀ f, s.requests.get f = none) → s.travelQueue = [] → s.slots = { first := none, second := none } →
          s.queue = [] →
          (s.pauseCondition = true →
            t.plant = .homing ∧ t.bankHoming = Bank.all true ∧ t.travelQueue = allFilters ∧ t.slots = s.slots ∧
            ∀ f, t.filters.get f = (s.filters.get f).outside .homing ∧
              t.requests.get f = some { target := .closed, requester := .homing, active := false } ∧
              t.channels.get f = { s.channels.get f with state := .waiting }) ∧
          (s.pauseCondition = false → (s.channels.get .f1).cwTorque = false → (s.channels.get .f2).cwTorque = false →
            t.plant = .homing ∧ t.bankHoming = Bank.all true ∧ t.travelQueue = [.f3, .f4, .f5, .f6] ∧
            t.slots = { first := some .f1, second := some .f2 } ∧
            (∀ f, t.filters.get f = (s.filters.get f).outside .homing ∧
              t.requests.get f = some { target := .closed, requester := .homing, active := f == .f1 || f == .f2 }) ∧
            ∀ f ∈ [FilterId.f1, FilterId.f2], let ch := t.channels.get f
              ch.position = none ∧ ch.search = 0 ∧
              ch.homing = some (if (s.channels.get f).home then .clear else .search) ∧
              ((s.channels.get f).dir ≠ some .ccw → ch.state = .moving ∧ ch.dir = some .cw ∧ ch.dirOut = true ∧
                ch.speed = s.settings.startSpeed ∧ ch.residue = 0 ∧ ch.creep = 0) ∧
              ((s.channels.get f).dir = some .ccw → ch.state = .dwell))))

/-- RESTART is answered DONE in every plant state, restarts every block and homes the bank afresh (R204, R26, R46,
R66, R116, R126, R131, R154, R180). -/
def Obligations.RestartHomesTheBankAfresh : Prop :=
  ∀ s : State, s.Quiet → s.Room .plant →
    let stays := s.plant = .setup ∧ s.settings.crossChecked = false
    let restarted := fun p : PlantState => (State.postAll { s with plant := p } .restarted).respond .plant
      (s.statusByte .plant) 0x72#8 0 .done []
    let record := fun (st : FilterState) (f : FilterId) =>
      { (s.filters.get f).outside st with circuit := none, cover := false, releaseOnReturn := false, faultKind := none }
    ∃ t, exec (.restart .plant []) s = .next t ∧
      (stays → (restarted .setup).Undisturbed t) ∧ (¬ stays → (restarted .homing).Undisturbed t) ∧
      (∀ p, (t.ports.get p).hasNotice .restarted = true) ∧
      let begins := s.pauseCondition = false ∧ (s.channels.get .f1).cwTorque = false ∧ (s.channels.get .f2).cwTorque = false
      (stays ∨ s.pauseCondition = true ∨ begins →
        t.queue = [] ∧ t.line = { available := s.line.available, pump := false, clean := none } ∧
        (∀ c, (t.doses.get c).reasons.notRunning = true ∧ t.pathOpen.get c = false) ∧
        ∀ f, let ch := t.channels.get f
          ch.position = none ∧ ch.seated = false ∧ ch.edge = none ∧ ch.settleTimer = none ∧ ch.search = 0 ∧
          ch.residue = 0 ∧ ch.creep = 0 ∧ ch.overrun = false ∧ ch.slowLatch = false) ∧
      (stays ∨ s.pauseCondition = true →
        t.slots = { first := none, second := none } ∧
        ∀ f, let ch := t.channels.get f
          ch.dir = none ∧ ch.homing = none ∧ ch.speed = 0) ∧
      (stays → t.plant = .setup ∧ t.travelQueue = [] ∧ ∀ f, t.filters.get f = record .unknown f ∧
        t.requests.get f = none ∧ (t.channels.get f).state = .unreferenced) ∧
      (¬ stays → s.pauseCondition = true → t.plant = .homing ∧ t.bankHoming = Bank.all true ∧
        t.travelQueue = allFilters ∧ ∀ f, t.filters.get f = record .homing f ∧
          t.requests.get f = some { target := .closed, requester := .homing, active := false } ∧
          (t.channels.get f).state = .waiting) ∧
      (¬ stays → begins → t.plant = .homing ∧ t.bankHoming = Bank.all true ∧ t.travelQueue = [.f3, .f4, .f5, .f6] ∧
        t.slots = { first := some .f1, second := some .f2 } ∧
        ∀ f, let first := f = .f1 ∨ f = .f2
          let ch := t.channels.get f
          t.filters.get f = record .homing f ∧
          t.requests.get f = some { target := .closed, requester := .homing, active := f == .f1 || f == .f2 } ∧
          (¬ first → ch.state = .waiting ∧ ch.dir = none ∧ ch.homing = none ∧ ch.speed = 0) ∧
          (first → ch.state = .moving ∧ ch.dir = some .cw ∧ ch.dirOut = true ∧ ch.speed = s.settings.startSpeed ∧
            ch.homing = some (if (s.channels.get f).home then .clear else .search)))

/-- TAKE_OUT_OF_USE parks a filter at rest, and takes out at once a faulted one whose position is unknown (R23, R197,
R12, R50). -/
def Obligations.TakeOutOfUseParksTheFilter : Prop :=
  ∀ (s : State) (code : Byte), s.Room .plant → s.Quiet → s.plant = .running →
    let answer := fun (u : State) (st : Status) (ps : List Byte) =>
      u.respond .plant (s.statusByte .plant) 0x73#8 1 st ps
    let c := Instr.takeOutOfUse .plant [code]
    match filterOf code with
    | none => exec c s = .next (answer s .refusedRange [])
    | some f =>
      let r := s.filters.get f
      if r.state ∈ [.unknown, .homing, .joining, .leaving, .cleaning, .parking, .outOfUse] then
        exec c s = .next (answer s .refusedState [])
      else if r.state = .fault ∧ (s.channels.get f).position = none then
        (∀ e ∈ s.queue, e.filter ≠ f) → s.Evaluated → s.grantAllowed = false →
          exec c s = .next (answer (s.updFilter f fun r => { r.outside .outOfUse with faultKind := none }) .done [code])
      else
        ∃ t, exec c s = .next t ∧ (answer s .accepted [code]).Undisturbed t ∧
          (s.stopActive = true → s.QueueLaw → s.MustWait f .park →
            t.filters = s.filters.set f
              { r.outside .parking with circuit := none, cover := false, faultKind := none } ∧
            t.requests = s.requests.set f (some { target := .park, requester := .maintenance, active := false }) ∧
            t.travelQueue = s.travelQueue ++ [f] ∧
            t.queue.map (fun e => (e.filter, e.reasons)) =
              (s.queue.filter fun e => e.filter != f).map (fun e => (e.filter, e.reasons)) ∧
            t.line = s.line ∧
            ∀ k, r.state = .service → r.circuit = some k →
              (t.ports.get (.circuit k)).hasNotice .filterLeft = true)

/-- RETURN_TO_USE homes a filter that is OUT_OF_USE or in FAULT and refuses every other (R24, R197, R4, R93). -/
def Obligations.ReturnToUseHomesTheFilter : Prop :=
  ∀ (s : State) (code : Byte), s.Room .plant → s.Quiet → s.plant = .running →
    let answer := fun (u : State) (st : Status) (ps : List Byte) =>
      u.respond .plant (s.statusByte .plant) 0x74#8 1 st ps
    let c := Instr.returnToUse .plant [code]
    match filterOf code with
    | none => exec c s = .next (answer s .refusedRange [])
    | some f =>
      let r := s.filters.get f
      if r.state = .outOfUse ∨ r.state = .fault then
        (∃ t, exec c s = .next t ∧ (answer s .accepted [code]).Undisturbed t) ∧
        (s.requests.get f = none → s.slots.hasFree = false ∨ s.pauseCondition = true → s.Evaluated →
          (∀ e ∈ s.queue, e.filter ≠ f) → s.grantAllowed = false →
          exec c s = .next (answer ((s.updFilter f fun r => { r.outside .homing with faultKind := none }).queuedTravel f
            .closed .homing) .accepted [code]))
      else exec c s = .next (answer s .refusedState [])

/-- A flow pulse is counted, proves flow for the window, and without a path only posts FLOW_WITHOUT_PATH (R27, R28,
R30, R32, R37). That a pulse which finds the level high comes after its fall is the model's reading of the meter
inputs (log entry 3). -/
def Obligations.FlowPulsesProveFlow : Prop :=
  ∀ (s : State) (c : CircuitId), ∃ t, exec (.flowPulse c) s = .next t ∧
    t.flow = s.flow.set c
      { s.flow.get c with openBin := min ((s.flow.get c).openBin + 1) 65535,
                          proofTimer := some s.settings.flowProofWindow } ∧
    t.meters = { s.meters with circuits := s.meters.circuits.set c true } ∧ t.settings = s.settings ∧
    t.circuits = s.circuits ∧ t.waste = s.waste ∧ t.bulkLow = s.bulkLow ∧ t.stopActive = s.stopActive ∧
    t.surge = s.surge ∧ t.line.available = s.line.available ∧
    (∀ d, d ≠ c → t.creditPointer.get d = s.creditPointer.get d ∧
      (t.doses.get d).accumulator = (s.doses.get d).accumulator ∧
      (t.doses.get d).delivered = (s.doses.get d).delivered) ∧
    (s.Quiet → s.InterlockLaw → (∀ f, (s.filters.get f).state = .service → (s.filters.get f).circuit ≠ some c) →
      (t.ports.get (.circuit c)).hasNotice .flowWithoutPath = true ∧ t.creditPointer = s.creditPointer ∧
      (s.doses.get c).Kept (t.doses.get c))

/-- A pulse credits the next SERVICE filter, raises THROUGHPUT at the limit, and owes its chlorine in whole stroke
units (R28, R35, R36, R40, R48, R49, R135, R136). -/
def Obligations.PulsesCreditAndDose : Prop :=
  (∀ (s : State) (c : CircuitId), s.DoseLaw →
    let d := s.doses.get c
    let unit := s.settings.strokeVolume.get c * s.settings.hypoStrength
    let total := d.accumulator + s.settings.litresPerFlowPulse.get c * (s.circuits.get c).demand
    let earned := min (total / unit) (8 - d.owed)
    let owed := d.owed + earned
    let full := unit ≤ total - earned * unit
    let starts := 0 < owed ∧ d.pacing = none
    s.dosePulse c =
      if doseState (s.circuits.get c).demand d.reasons = .active then
        let e : DoseChannel :=
          { reasons := d.reasons
            accumulator := if full then unit - 1 else total - earned * unit
            owed := if starts then owed - 1 else owed
            pacing := if starts then some (60000 / s.settings.maxStrokeRate.get c) else d.pacing
            stroke := if starts then true else d.stroke
            delivered := if starts then min (d.delivered + 1) 4294967295 else d.delivered
            shortfall := if full then min (d.shortfall + 1) 65535 else d.shortfall }
        let t := { s with doses := s.doses.set c e }
        if full then t.post (.circuit c) .doseSaturated else t
      else s) ∧
  ∀ (s : State) (c : CircuitId) (f : FilterId),
    let place := fun g : FilterId => (filterNumber g + 5 - filterNumber (s.creditPointer.get c)) % 6
    let serves := fun g : FilterId => (s.filters.get g).state = .service ∧ (s.filters.get g).circuit = some c
    let litres := s.settings.litresPerFlowPulse.get c
    let limit := s.settings.throughputLimit * 1000
    let credited := { s.filters.get f with throughput := min ((s.filters.get f).throughput + litres) 99999999,
                                           grace := (s.filters.get f).grace - litres }
    serves f → (∀ g, serves g → place f ≤ place g) →
    (s.Quiet → s.flowProven c = true →
      limit ≤ (s.filters.get f).throughput ∨ (s.filters.get f).throughput + litres < limit →
      exec (.flowPulse c) s = .next (State.dosePulse
        { s with
          meters := { s.meters with circuits := s.meters.circuits.set c true },
          flow := s.flow.set c
            { s.flow.get c with openBin := min ((s.flow.get c).openBin + 1) 65535,
                                proofTimer := some s.settings.flowProofWindow },
          creditPointer := s.creditPointer.set c f,
          filters := s.filters.set f credited } c)) ∧
    (s.QueueLaw → s.stopActive = true → (s.filters.get f).throughput < limit → limit ≤ credited.throughput →
      ∃ t, exec (.flowPulse c) s = .next t ∧ t.filters = s.filters.set f credited ∧
        t.creditPointer = s.creditPointer.set c f ∧
        ((∀ e ∈ s.queue, e.filter ≠ f) → t.queue.map (fun e => (e.filter, e.reasons)) =
          s.queue.map (fun e => (e.filter, e.reasons)) ++ [(f, { throughput := true })]) ∧
        ((∃ e ∈ s.queue, e.filter = f) → t.queue.map (fun e => (e.filter, e.reasons)) =
          s.queue.map fun e =>
            (e.filter, if e.filter = f then { e.reasons with throughput := true } else e.reasons)))

/-- The pacing timer's expiry starts the next owed stroke of an ACTIVE channel; the stroke timer's ends the pulse
(R138, R139). -/
def Obligations.StrokesArePaced : Prop :=
  (∀ (s : State) (c : CircuitId), s.Quiet → (s.doses.get c).pacing.isSome = true →
    let d := s.doses.get c
    let e := if doseState (s.circuits.get c).demand d.reasons = .active ∧ 0 < d.owed then
        { d with owed := d.owed - 1, delivered := min (d.delivered + 1) 4294967295, stroke := true,
                 pacing := some (60000 / s.settings.maxStrokeRate.get c) }
      else { d with pacing := none }
    exec (.pacingTimerExpiry c) s = .next { s with doses := s.doses.set c e }) ∧
  ∀ (s : State) (c : CircuitId),
    exec (.strokeTimerExpiry c) s = .next { s with doses := s.doses.set c { s.doses.get c with stroke := false } }

/-- The flow-proof timer's expiry takes the proof and the strokes owed; the bin timer's turns every ring (R30, R31,
R32, R142, R145). -/
def Obligations.FlowProofAndBinsExpire : Prop :=
  (∀ (s : State) (c : CircuitId), s.InterlockLaw → s.flowProven c = true →
    ∃ t, exec (.flowProofExpiry c) s = .next t ∧
      State.Undisturbed { s with flow := s.flow.set c { s.flow.get c with proofTimer := none } } t ∧
      t.flowProven c = false ∧ (t.doses.get c).reasons.noFlow = true ∧
      (doseState (s.circuits.get c).demand (s.doses.get c).reasons = .active →
        (t.doses.get c).owed = 0 ∧ (t.ports.get (.circuit c)).hasNotice .doseInterlocked = true)) ∧
  ∀ s : State, ∃ t, exec .binTimerExpiry s = .next t ∧ t = { s with flow := t.flow } ∧
    ∀ c, t.flow.get c =
      { s.flow.get c with openBin := 0,
                          closedBins := (s.flow.get c).openBin :: (s.flow.get c).closedBins.take 8 }

/-- A waste pulse spends the allowance; a run phase counts it and ends at its volume, any other reports it stray (R27,
R34, R56, R72, R74, R75). That a pulse which finds the level high comes after its fall is the model's reading of the
meter input (log entry 3). -/
def Obligations.WastePulsesAreSpentAndCounted : Prop :=
  ∀ s : State, s.Quiet →
    let litres := s.settings.litresPerWastePulse
    let u := { s with waste := { s.waste with allowance := s.waste.allowance - litres },
                      meters := { s.meters with waste := true } }
    ((∀ r, s.line.clean = some r → r.phase ≠ .backwashRun ∧ r.phase ≠ .rinseRun) →
      exec .wastePulse s = .next (u.post .plant .strayWasteFlow)) ∧
    ∀ r : LineRecord, s.line.clean = some r →
      let x := { r with counted := r.counted + litres, flowTimer := .stopped, wetted := r.wetted || r.phase == .backwashRun }
      (r.phase = .backwashRun →
        (x.counted < s.settings.backwashVolume → exec .wastePulse s = .next (u.setClean (some x))) ∧
        (s.settings.backwashVolume ≤ x.counted → s.MustWait r.filter .rinse →
          exec .wastePulse s = .next (u.lineTravels (x.resting .toRinse) .rinse))) ∧
      (r.phase = .rinseRun →
        let target := r.returnStop (s.filters.get r.filter)
        (x.counted < s.settings.rinseVolume → exec .wastePulse s = .next (u.setClean (some x))) ∧
        (s.settings.rinseVolume ≤ x.counted → s.MustWait r.filter target →
          exec .wastePulse s = .next ((u.updFilter r.filter fun y => { y with rinseOwed := false }).lineTravels
            { x.resting .returning with
              outcome := if r.outcome = .none then .complete else r.outcome, returnTarget := target } target)))

/-- A minute of service counts and a limit reached files RUN_TIME; the hourly re-check files each load above its limit
(R38, R39, R40, R48, R49). What an expiry does for a timer that does not run is the model's choice (log entry 5). -/
def Obligations.LoadTimersRaiseTheirTriggers : Prop :=
  ∀ (s : State) (f : FilterId),
    let r := s.filters.get f
    let minute := { r with runTime := min (r.runTime + 1) 65535 }
    let minutes := s.settings.runTimeLimit * 60
    let litres := s.settings.throughputLimit * 1000
    (r.minuteTimer = true → ∃ t, exec (.runTimeMinute f) s = .next t ∧
      State.Undisturbed { s with filters := s.filters.set f minute } t ∧
      (s.Quiet → minutes ≤ r.runTime ∨ r.runTime + 1 < minutes → t = { s with filters := s.filters.set f minute }) ∧
      (s.stopActive = true → t.filters = s.filters.set f minute ∧
        (s.QueueLaw → r.state.mayQueue = true → r.runTime < minutes → minutes ≤ minute.runTime →
          ∃ e ∈ t.queue, e.filter = f ∧ e.reasons.runTime = true))) ∧
    (r.recheckTimer = true → ∃ t, exec (.recheckExpiry f) s = .next t ∧ s.Undisturbed t ∧
      (s.Quiet → r.throughput < litres → r.runTime < minutes → t = s) ∧
      (s.stopActive = true → t.filters = s.filters ∧
        (s.QueueLaw → r.state.mayQueue = true →
          (litres ≤ r.throughput → ∃ e ∈ t.queue, e.filter = f ∧ e.reasons.throughput = true) ∧
          (minutes ≤ r.runTime → ∃ e ∈ t.queue, e.filter = f ∧ e.reasons.runTime = true)))) ∧
    (s.Quiet → (r.minuteTimer = false → exec (.runTimeMinute f) s = .next s) ∧
      (r.recheckTimer = false → exec (.recheckExpiry f) s = .next s))

/-- A DP switch starts or stops its hold; at its expiry a loaded bed is queued as urgent, a fresh one faults (R41,
R42, R9, R48, R49). -/
def Obligations.PressureIsQueuedOrBlocksTheFilter : Prop :=
  (∀ (s : State) (f : FilterId) (active : Bool), (s.filters.get f).dpActive ≠ active →
    exec (.dpSwitchChange f active) s = .next (s.updFilter f fun r =>
      { r with dpActive := active,
               dpTimer := if active = true ∧ r.state = .service then .running s.settings.dpHold else .stopped })) ∧
  ∀ (s : State) (f : FilterId) (n : Nat),
    let r := s.filters.get f
    r.dpTimer = .running n → r.state = .service →
    ∃ t, exec (.dpHoldExpiry f) s = .next t ∧ s.Undisturbed t ∧
      (r.grace = 0 → s.QueueLaw → s.stopActive = true → (∀ e ∈ s.queue, e.filter = f → e.reasons.pressure = false) →
        t.filters = s.filters.set f { r with dpTimer := .expired n } ∧
        t.queue.map QueueEntry.filter = (s.queue.filter fun e => e.reasons.pressure).map QueueEntry.filter ++ [f] ++
          (s.queue.filter fun e => !e.reasons.pressure && e.filter != f).map QueueEntry.filter ∧
        ∃ e ∈ t.queue, e.filter = f ∧ e.reasons.pressure = true) ∧
      (0 < r.grace → s.requests.get f = none → f ∉ s.travelQueue → (∀ x, s.line.clean = some x → x.filter ≠ f) →
        t.filters.get f = r.inFault .mediaBlocked ∧ (∀ e ∈ t.queue, e.filter ≠ f) ∧
        (t.ports.get .plant).hasNotice .filterFault = true ∧
        ∀ k, r.circuit = some k → (t.ports.get (.circuit k)).hasNotice .filterFault = true)

/-- The grant goes to the first ELIGIBLE entry when every condition holds; a refill adds WASTE_RATE up to the cap
(R55, R60, R61, R67, R8). What an event owes, and the mark of the grant it has made, are the model's own (log entries
9 and 10): the second clause speaks of them. -/
def Obligations.GrantsTakeTheFirstEligibleEntry : Prop :=
  let granted := fun (s : State) (e : QueueEntry) (rest : List QueueEntry) =>
    let r := s.filters.get e.filter
    let x : LineRecord :=
      { filter := e.filter, startCircuit := r.circuit, reasons := e.reasons, phase := .toBackwash, heldPhase := none,
        counted := 0, phaseTimer := .stopped, flowTimer := .stopped, suspendTimer := none, wetted := false,
        outcome := .none, exitUnrinsed := false, abortPending := false, requeue := false,
        returnTarget := match r.circuit with | none => .closed | some c => .circuit c }
    let u := { s with
      queue := rest, line := { s.line with clean := some x },
      filters := s.filters.set e.filter { r.outside .cleaning with releaseOnReturn := false } }
    State.queuedTravel (match r.circuit with | none => u | some k => u.post (.circuit k) .backwashStarted) e.filter
      .backwash .backwashLine
  let allowed := fun s : State => s.plant = .running ∧ s.stopActive = false ∧ s.line.clean = none ∧
    s.line.available = true ∧ s.waste.bwStart = true ∧
    s.settings.backwashVolume + s.settings.rinseVolume ≤ s.waste.allowance
  (∀ s : State, ¬ allowed s ∨ (∀ e ∈ s.queue, e.eligibility ≠ .eligible) → s.tryGrant = s) ∧
  (∀ (s : State) (e : QueueEntry) (before after : List QueueEntry), allowed s → s.due.granted = false →
    s.queue = before ++ e :: after → (∀ x ∈ before, x.eligibility ≠ .eligible) → e.eligibility = .eligible →
    (∀ x ∈ before ++ after, x.filter ≠ e.filter) → s.MustWait e.filter .backwash →
    s.tryGrant = { granted s e (before ++ after) with due := { s.due with eval := true, grant := true, granted := true } }) ∧
  ∀ s : State,
    let u := { s with waste :=
      { s.waste with allowance := min (s.waste.allowance + s.settings.wasteRate) s.settings.wasteCap } }
    (∃ t, exec .refillTimerExpiry s = .next t ∧ u.Undisturbed t) ∧
    (s.Quiet → ¬ allowed u ∨ (∀ e ∈ s.queue, e.eligibility ≠ .eligible) → exec .refillTimerExpiry s = .next u) ∧
    ∀ (e : QueueEntry) (before after : List QueueEntry), s.Quiet → s.Evaluated → allowed u →
      s.queue = before ++ e :: after → (∀ x ∈ before, x.eligibility ≠ .eligible) → e.eligibility = .eligible →
      (∀ x ∈ before ++ after, x.filter ≠ e.filter) → s.MustWait e.filter .backwash →
      (s.filters.get e.filter).state = .standby →
      exec .refillTimerExpiry s = .next (granted u e (before ++ after))

/-- LOW_LOW suspends a run phase with its timers held, and it resumes when the water stands above BW_START (R58, R71,
R79, R80). That a held timer keeps no count of the time it has run is the model's choice (log entry 4). -/
def Obligations.TankSwitchesHoldTheRunPhases : Prop :=
  ∀ s : State, s.Quiet →
    let level := fun low high : Bool => { s with waste := { s.waste with lowLow := low, bwStart := high } }
    let run := fun p : Phase => p = .backwashRun ∨ p = .rinseRun
    (s.waste.lowLow = false →
      (∀ (r : LineRecord) (m : Nat), s.line.clean = some r → run r.phase → r.phaseTimer = .running m →
        let x := { r with phase := .suspended, heldPhase := some r.phase, phaseTimer := .held m,
                          flowTimer := if r.flowTimer = .stopped then .stopped else .held,
                          suspendTimer := some s.settings.suspendLimit }
        exec (.lowLowChange true) s = .next { level true s.waste.bwStart with
          line := { s.line with pump := false, clean := some x } }) ∧
      ((∀ r, s.line.clean = some r → ¬ run r.phase) →
        exec (.lowLowChange true) s = .next (level true s.waste.bwStart))) ∧
    (∀ (c : Instr) (r : LineRecord) (p : Phase), s.line.clean = some r → r.phase = .suspended → r.heldPhase = some p →
      run p →
      (c = .lowLowChange false ∧ s.waste.lowLow = true ∧ s.waste.bwStart = true) ∨
        (c = .bwStartChange true ∧ s.waste.lowLow = false ∧ s.waste.bwStart = false) →
      let going := fun x : LineRecord => exec c s = .next { level false true with
        line := { s.line with pump := true, clean := some { x with phase := p, heldPhase := none, flowTimer := .running,
                                                                   suspendTimer := none } } }
      let minutes := if p = .backwashRun then s.settings.backwashMaxTime else s.settings.rinseMaxTime
      (∀ m, r.phaseTimer = .held m → going { r with phaseTimer := .running m }) ∧
      (r.phaseTimer = .stopped → going { r with counted := 0, phaseTimer := .running minutes })) ∧
    (s.waste.lowLow = true → s.waste.bwStart = false → exec (.lowLowChange false) s = .next (level false false)) ∧
    (s.waste.bwStart = true → exec (.bwStartChange false) s = .next (level s.waste.lowLow false)) ∧
    (s.waste.bwStart = false → s.line.clean = none ∨ s.waste.lowLow = true →
      ∃ t, exec (.bwStartChange true) s = .next t ∧ (level s.waste.lowLow true).Undisturbed t ∧
        ((level s.waste.lowLow true).grantAllowed = false ∨ (∀ e ∈ s.queue, e.eligibility ≠ .eligible) →
          t = level s.waste.lowLow true))

/-- The Line's timers end a phase: SHORT by time, UNAVAILABLE without flow, and a return from a tank that stays low
(R73, R74, R75, R76, R77, R81). -/
def Obligations.LineTimersEndThePhase : Prop :=
  ∀ (s : State) (r : LineRecord), s.Quiet → s.line.clean = some r →
    let target := r.returnStop (s.filters.get r.filter)
    let short := { r with outcome := if r.outcome = .none then .short else r.outcome }
    let travels := fun (c : Instr) (u : State) (x : LineRecord) (phase : Phase) (stop : Stop) =>
      s.MustWait r.filter stop → exec c s = .next (u.lineTravels
        { x.resting phase with returnTarget := if phase = .returning then stop else r.returnTarget } stop)
    (∀ m, r.phaseTimer = .running m →
      (r.phase = .backwashRun → travels .phaseTimerExpiry s short .toRinse .rinse) ∧
      (r.phase = .rinseRun →
        travels .phaseTimerExpiry (s.updFilter r.filter fun y => { y with rinseOwed := false }) short .returning target)) ∧
    (r.flowTimer = .running → r.phase = .backwashRun ∨ r.phase = .rinseRun →
      let u := State.post { s with line := { s.line with available := false } } .plant .lineUnavailable
      (r.phase = .backwashRun → r.wetted = false →
        travels .lineFlowProofExpiry u { r with outcome := .noFlow, requeue := true } .returning target) ∧
      (r.phase = .rinseRun ∨ r.wetted = true →
        travels .lineFlowProofExpiry u { r with outcome := .noFlow, exitUnrinsed := true } .returning .closed)) ∧
    (r.phase = .suspended → r.suspendTimer.isSome = true →
      let u := s.post .plant .tankLow
      (r.wetted = false → travels .suspendTimerExpiry u
        { r with outcome := .aborted, requeue := r.requeue || !r.abortPending } .returning target) ∧
      (r.wetted = true → travels .suspendTimerExpiry u { r with exitUnrinsed := true } .returning .closed))

/-- Plant stop pauses every moving selector, holds the Line with its pump off and interlocks every channel (R163,
R164, R110, R82, R146, R142). -/
def Obligations.PlantStopHoldsThePlant : Prop :=
  ∀ s : State, s.Quiet →
    (s.stopRead = false → exec .plantStopOpens s = .next { s with stopRead := true }) ∧
    (s.stopRead = true → s.stopActive = false → ∃ t, exec .plantStopOpens s = .next t ∧
      t = { s with stopActive := true, channels := t.channels, line := t.line, doses := t.doses, ports := t.ports } ∧
      (∀ f, let ch := s.channels.get f
        t.channels.get f = if ch.state = .moving then
          { ch with state := .paused, speed := 0, residue := 0, overrun := false } else ch) ∧
      (s.line.clean = none → t.line = s.line) ∧
      (∀ r, s.line.clean = some r → r.phase ≠ .stopHeld →
        let x := { r.resting .stopHeld with
          heldPhase := if r.phase = .suspended then r.heldPhase else some r.phase }
        t.line = { s.line with pump := false, clean := some x }) ∧
      (∀ c, let d := s.doses.get c
        let demand := (s.circuits.get c).demand
        t.doses.get c = { d with reasons := { d.reasons with plantStop := true },
                                 owed := if doseState demand d.reasons = .active then 0 else d.owed } ∧
        (0 < demand → d.reasons.plantStop = false →
          (t.ports.get (.circuit c)).hasNotice .doseInterlocked = true)) ∧
      ∀ p, (t.ports.get p).hasNotice .plantStopped = true)

/-- The release clears PLANT_STOP everywhere, recovers the Line by its held phase and resumes what was paused (R163,
R164, R165, R146, R83, R74, R111). The order of the reactions is a free value, and the count of free values is the
model's own (log entries 8 and 24). That a start on the target itself takes CW is the model's choice (log entry 35).
-/
def Obligations.PlantStopIsReleased : Prop :=
  ∀ s : State, s.stopActive = true →
    let u := { s with stopActive := false, stopRead := true, free := s.free + 1 }
    ∃ t, exec .plantStopRelease s = .next t ∧ u.Undisturbed t ∧
      (s.InterlockLaw → ∀ c, (t.doses.get c).reasons.plantStop = false) ∧
      (s.stopRead = true → ∀ p, (t.ports.get p).hasNotice .plantReleased = true) ∧
      (∀ r, s.line.clean = some r → r.phase = .stopHeld → s.line.pump = false →
        s.surge = true → s.settings.surgeMode = .pause → (s.filters.get r.filter).state = .cleaning →
        r.returnTarget = r.returnStop (s.filters.get r.filter) →
        let x := { r with outcome := .aborted, requeue := r.requeue || !r.abortPending }
        let line := fun (on : Bool) (y : LineRecord) => ∃ target : Stop,
          t.line = { s.line with pump := on, clean := some { y with returnTarget := target } } ∧
          target = y.returnStop (t.filters.get r.filter)
        let travels := fun (y : LineRecord) (rinse : Bool) => line false y ∧
          ∃ q, t.requests.get r.filter = some q ∧ q.requester = .backwashLine ∧
            q.target = if rinse = true then .rinse else y.returnStop (t.filters.get r.filter)
        let moves := (s.requests.get r.filter).isSome = true
        let rests := fun stop : Stop => s.requests.get r.filter = none ∧ (s.channels.get r.filter).SeatedAt stop
        let dry := r.heldPhase = some .toBackwash ∨ (r.heldPhase = some .backwashRun ∧ r.wetted = false)
        let wet := r.heldPhase ∈ [some .backwashRun, some .toRinse, some .rinseRun] ∧ r.wetted = true
        (dry → moves ∨ rests .backwash → travels (x.resting .returning) false) ∧
        (wet → moves ∨ rests .backwash → travels (x.resting .toRinse) true) ∧
        (wet → rests .rinse → s.waste.lowLow = false → line true { x.resting .rinseRun with
          counted := 0, phaseTimer := .running s.settings.rinseMaxTime, flowTimer := .running }) ∧
        (wet → rests .rinse → s.waste.lowLow = true → line false { x.resting .suspended with
          heldPhase := some .rinseRun, suspendTimer := some s.settings.suspendLimit }) ∧
        (r.heldPhase = some .returning → moves → travels (r.resting .returning) false)) ∧
      (∀ (f : FilterId) (q : TravelRequest), s.plant ≠ .running → s.line.clean = none → s.travelQueue = [] →
        s.surge = false ∨ s.settings.surgeMode ≠ .pause →
        (∀ g, g ≠ f → (s.channels.get g).state ≠ .paused) → s.requests.get f = some q →
        let ch := s.channels.get f
        let begun := fun (d : Dir) (creep : Nat) =>
          { ch with state := .moving, dir := some d, dirOut := d == .cw, speed := ch.profile.startSpeed, residue := 0,
                    creep := creep, overrun := false }
        let dwells := { ch with state := .dwell, speed := 0, residue := 0 }
        ch.state = .paused →
        (∀ p, ch.homing = none → ch.overrun = false → ch.position = some p → p < 1600 →
          let way := if (200 * q.target.number + 1600 - p) % 1600 ≤ 800 then Dir.cw else Dir.ccw
          ch.torque way = false →
          (ch.dir = some way ∨ ch.dir = none → t.channels.get f = begun way ch.profile.startCreep) ∧
          (∀ d, d ≠ way → ch.dir = some d → t.channels.get f = dwells)) ∧
        (∀ h, ch.homing = some h → ch.cwTorque = false →
          (ch.dir ≠ some .ccw → t.channels.get f = begun .cw 0) ∧
          (ch.dir = some .ccw → t.channels.get f = dwells))) ∧
      (s.Quiet → s.plant = .setup → s.line.clean = none → s.travelQueue = [] → s.queue = [] →
        (∀ f, (s.channels.get f).state ≠ .paused) →
        (∀ c, t.doses.get c = { s.doses.get c with reasons := { (s.doses.get c).reasons with plantStop := false } }) ∧
        (s.stopRead = true → t = State.postAll { u with doses := t.doses } .plantReleased) ∧
        (s.stopRead = false → t = { u with doses := t.doses }))

/-- The surge input's clearing resumes a paused travel; BULK_LOW interlocks and releases every channel (R111, R112,
R101, R142, R147). That a start on the target itself takes CW is the model's choice (log entry 35). -/
def Obligations.SurgeAndBulkInputsAreTaken : Prop :=
  (∀ s : State, s.Quiet → s.surge = false → exec (.surgeChange true) s = .next { s with surge := true }) ∧
  (∀ s : State, s.surge = true → ∃ t, exec (.surgeChange false) s = .next t ∧
    State.Undisturbed { s with surge := false } t ∧
    (s.Quiet → s.stopActive = true → t = { s with surge := false }) ∧
    ∀ (f : FilterId) (r : TravelRequest) (p : Nat), s.Quiet → s.stopActive = false → s.travelQueue = [] →
      (∀ g, g ≠ f → (s.channels.get g).state ≠ .paused) → s.requests.get f = some r →
      let ch := s.channels.get f
      let way := if (200 * r.target.number + 1600 - p) % 1600 ≤ 800 then Dir.cw else Dir.ccw
      ch.state = .paused → ch.homing = none → ch.overrun = false → ch.position = some p → p < 1600 →
      ch.dir = some way → ch.torque way = false →
      t = State.updChannel { s with surge := false } f fun ch =>
        { ch with state := .moving, dirOut := way == .cw, speed := ch.profile.startSpeed, residue := 0,
                  creep := ch.profile.startCreep }) ∧
  ∀ (s : State) (active : Bool), s.Quiet → s.bulkLow ≠ active → ∃ t, exec (.bulkLowChange active) s = .next t ∧
    t = { s with bulkLow := active, doses := t.doses, ports := t.ports } ∧
    (∀ c, let d := s.doses.get c
      t.doses.get c = { d with
        reasons := { d.reasons with bulkEmpty := active },
        owed := if active = true ∧ doseState (s.circuits.get c).demand d.reasons = .active then 0 else d.owed } ∧
      (active = true → 0 < (s.circuits.get c).demand → d.reasons.bulkEmpty = false →
        (t.ports.get (.circuit c)).hasNotice .doseInterlocked = true ∧
        (t.ports.get (.circuit c)).interlock = some { d.reasons with bulkEmpty := true })) ∧
    (active = true → (t.ports.get .plant).hasNotice .bulkEmpty = true) ∧ (active = false → t.ports = s.ports)

/-- After a pass a circuit short of its wanted count has no spare filter to take, and none holds more than W + 1 (R13,
R17, R18, R19). -/
def Obligations.PassesMeetTheWantedCounts : Prop :=
  ∀ s : State, let t := s.passSteps.state
    (∀ c ∈ [s.settings.priority.first, s.settings.priority.second, s.settings.priority.third,
        s.settings.priority.fourth],
      t.heldCount c ≤ (t.circuits.get c).wanted + 1 ∧
      (t.heldCount c < (t.circuits.get c).wanted →
        ∀ f, ¬ ((t.filters.get f).state = .standby ∧ (t.filters.get f).rinseOwed = false))) ∧
    t.circuits = s.circuits ∧
    ∀ f, let r := s.filters.get f
      (r.state ∈ [.unknown, .homing, .leaving, .cleaning, .parking, .outOfUse, .fault] ∨
          (r.state = .standby ∧ r.rinseOwed = true) → (t.filters.get f).state = r.state) ∧
      (r.state = .joining → (t.filters.get f).state = .joining ∨ (t.filters.get f).state = .leaving)

/-- At the end of a dwell the channel begins the shorter way round, or the other if its torque input is active (R99,
R100, R101, R126). That a start on the target itself takes CW is the model's choice (log entry 35). -/
def Obligations.DwellsEndInAStart : Prop :=
  ∀ (s : State) (f : FilterId) (r : TravelRequest), s.Quiet → s.requests.get f = some r →
    let ch := s.channels.get f
    ch.state = .dwell →
    let begun := fun (d : Dir) (creep : Nat) => exec (.dwellExpiry f) s = .next (s.updChannel f fun ch =>
      { ch with state := .moving, dir := some d, dirOut := d == .cw, speed := ch.profile.startSpeed, residue := 0,
                creep := creep, overrun := false })
    (s.pauseCondition = true → exec (.dwellExpiry f) s = .next (s.updChannel f fun ch =>
      { ch with state := .paused, speed := 0, residue := 0, overrun := false })) ∧
    (s.pauseCondition = false → s.NoHandOut →
      (∀ h, ch.homing = some h → ch.cwTorque = false → begun .cw 0) ∧
      ∀ p, ch.homing = none → ch.position = some p → p < 1600 →
        let clockwise := (200 * r.target.number + 1600 - p) % 1600
        let creep := ch.profile.startCreep
        (clockwise ≤ 800 → ch.cwTorque = false → begun .cw creep) ∧
        (clockwise ≤ 800 → ch.cwTorque = true → ch.ccwTorque = false → begun .ccw creep) ∧
        (800 < clockwise → ch.ccwTorque = false → begun .ccw creep) ∧
        (800 < clockwise → ch.ccwTorque = true → ch.cwTorque = false → begun .cw creep))

/-- A profile interval updates V by the braking estimate, emits its steps capped at R, and settles over the target
(R102, R103, R104, R105, R106, R119, R126, R127). The pulses, the steps in an open edge record and the stop of a
settle are the model's own items (log entries 24 and 30). -/
def Obligations.IntervalsFollowTheProfile : Prop :=
  (∀ (p : Profile) (c : Nat), 1 ≤ p.speedStep → ∃ sum : Nat → Nat,
    (∀ v, sum v = if v ≤ p.startSpeed then 0 else
      let amount := if v ≤ p.startSpeed + p.softBand ∨ p.runSpeed < v + p.softBand then max 1 (p.speedStep / 2)
        else p.speedStep
      max (v - amount) p.startSpeed + sum (max (v - amount) p.startSpeed)) ∧
    ∀ v, p.brakingSteps c v = c + (sum v + 99) / 100) ∧
  ∀ (s : State) (f : FilterId) (r : TravelRequest), s.Quiet → s.requests.get f = some r →
    s.surge = false ∨ s.settings.surgeMode = .ignore →
    let ch := s.channels.get f
    let q := ch.profile
    ch.state = .moving →
    let becomes := fun x : Channel => exec (.profileInterval f) s = .next { s with channels := s.channels.set f x }
    let emitted := fun (v n : Nat) (x : Channel) =>
      { x with speed := v, residue := (v + ch.residue) % 100, creep := ch.creep - n, pulses := ch.pulses + n,
               seated := ch.seated && n = 0, edge := ch.edge.map fun e : EdgeRecord => { e with steps := e.steps + n } }
    (∀ (p : Nat) (d : Dir), ch.homing = none → ch.overrun = false → ch.dir = some d → ch.position = some p → p < 1600 →
      let stop := 200 * r.target.number
      let left := match d with
        | .cw => (stop + 1600 - p) % 1600
        | .ccw => (p + 1600 - stop) % 1600
      let amount := if ch.speed ≤ q.startSpeed + q.softBand ∨ q.runSpeed < ch.speed + q.softBand
        then max 1 (q.speedStep / 2) else q.speedStep
      let b := q.brakingSteps s.settings.seatCreep ch.speed
      let v :=
        if 0 < ch.creep then q.startSpeed
        else if q.startSpeed < ch.speed ∧ left ≤ b then max (ch.speed - amount) q.startSpeed
        else if b < left ∧ ch.speed < q.runSpeed ∧ ch.slowLatch = false then min (ch.speed + amount) q.runSpeed
        else ch.speed
      let n := (v + ch.residue) / 100
      let settled := fun k : Nat =>
        { emitted v k ch with
          state := .settling, speed := 0, residue := 0, position := some stop, settleStop := some r.target,
          settleTimer := some s.settings.detentSettle }
      (n < left → becomes { emitted v n ch with
        position := some (match d with | .cw => (p + n) % 1600 | .ccw => (p + 1600 - n) % 1600) }) ∧
      (left ≤ n → ch.detent = false → s.NoHandOut → becomes (settled left)) ∧
      (left = 0 → ch.detent = false → s.NoHandOut → becomes (settled 0))) ∧
    (ch.homing = some .clear ∨ ch.homing = some .search → ch.position = none → ch.edge = none →
      let n := (q.startSpeed + ch.residue) / 100
      ch.search + n < 1700 → becomes { emitted q.startSpeed n ch with search := ch.search + n })

/-- A trip, a failed seat, a lost detent, a drift of 9 steps or a search at its limit ends the travel in FAULT (R9,
R96, R99, R118, R119, R122, R125, R127). The interval that reaches the limit of the search emits no step past it,
which is the model's choice (log entry 19); the pulses are the model's own item (log entry 24). The search counter
that a failed travel keeps is its choice too (log entry 19). That the raw edge and the confirmed edge the other way
show the failure of a hold is its reading (log entry 40). -/
def Obligations.FailedTravelsFaultTheFilter : Prop :=
  ∀ (s : State) (f : FilterId) (r : TravelRequest), s.requests.get f = some r → r.requester ≠ .backwashLine →
    (s.filters.get f).state ∈ [.homing, .joining, .leaving, .parking] →
    (∀ x, s.line.clean = some x → x.filter ≠ f) →
    let ch := s.channels.get f
    let fails := fun (c : Instr) (contact : Channel → Channel) (kind : FaultKind) (count : Option Nat) =>
      ∃ t, exec c s = .next t ∧ (s.updChannel f contact).Undisturbed t ∧
        t.filters.get f = (s.filters.get f).inFault kind ∧ t.requests.get f = none ∧ f ∉ t.travelQueue ∧
        (∀ e ∈ t.queue, e.filter ≠ f) ∧
        t.channels.get f = { contact ch with
          state := .faulted, position := count, speed := 0, residue := 0, overrun := false, seated := false,
          settleTimer := none, settleStop := none, edge := none, homing := none } ∧
        (t.ports.get .plant).hasNotice .filterFault = true ∧
        ∀ k, (s.filters.get f).circuit = some k → (t.ports.get (.circuit k)).hasNotice .filterFault = true
    (ch.state = .moving → ch.dir = some .cw → ch.cwTorque = false →
      fails (.torqueTrip f .cw true) (fun x => { x with cwTorque := true }) .jammed ch.position) ∧
    (ch.state = .moving → ch.dir = some .ccw → ch.ccwTorque = false →
      fails (.torqueTrip f .ccw true) (fun x => { x with ccwTorque := true }) .jammed ch.position) ∧
    (ch.state = .dwell → s.pauseCondition = false → ch.homing = none → ch.position.isSome = true →
      ch.cwTorque = true → ch.ccwTorque = true → fails (.dwellExpiry f) id .jammed ch.position) ∧
    (ch.state = .settling → ch.settleTimer.isSome = true → fails (.settleTimeout f) id .positionLost none) ∧
    (ch.seated = true → ch.state ∈ [.waiting, .dwell, .moving, .paused] →
      fails (.detentLossAtRest f) (fun x => { x with detent := false }) .positionLost none) ∧
    (∀ (e : EdgeRecord) (recorded : Nat), ch.edge = some e → e.rising = true → e.position = some recorded →
      recorded < 1600 → ch.position.isSome = true → ch.homing = none →
      ch.state ∈ [.moving, .paused, .dwell, .settling] →
      let place := match e.dir with | .cw => 1595 | .ccw => 5
      9 ≤ (place + 1600 - recorded) % 1600 → (place + 1600 - recorded) % 1600 ≤ 1591 →
      fails (.homeEdgeConfirmed f true) (fun x => { x with home := true }) .positionLost none) ∧
    (∀ (e : EdgeRecord), ch.edge = some e → 1700 ≤ ch.search →
      (ch.homing = some .clear ∧ e.rising = false) ∨ (ch.homing = some .search ∧ e.rising = true) →
      fails (.homeEdgeHoldFails f) id .homeNotFound none ∧
      fails (.homeEdgeRaw f (!e.rising)) id .homeNotFound none ∧
      fails (.homeEdgeConfirmed f (!e.rising)) (fun x => { x with home := !e.rising }) .homeNotFound none) ∧
    (ch.state = .moving → ch.homing = some .clear ∨ ch.homing = some .search → ch.edge = none → s.surge = false →
      ch.search ≤ 1700 → 1700 ≤ ch.search + (ch.profile.startSpeed + ch.residue) / 100 →
      let n := 1700 - ch.search
      fails (.profileInterval f) (fun x => { x with search := 1700, creep := x.creep - n, pulses := x.pulses + n })
        .homeNotFound none)

/-- A closing detent seats the selector and brings its filter home; home edges open records and correct the count (R5,
R6, R10, R99, R100, R107, R119, R121, R123, R124, R127, R128). Changes that set a level alone are log entry 23; raw
edges outside MOVING, and confirmations with no record, log entry 20; the search counter from the end of SEARCH on log
entry 19; an edge confirmed in APPROACH log entry 33; the steps of a record and the stop of a settle log entries 24
and 30. All are the model's choices or its own items. That a correction settles a channel with the overrun mark set
too is its reading (log entry 37). That the raw edge back and a confirmed edge back discard a record is its reading,
and that a failed hold discards the record that stands its choice (log entry 40). -/
def Obligations.SeatsAndHomeEdgesAreTaken : Prop :=
  ∀ (s : State) (f : FilterId),
    let ch := s.channels.get f
    let x := s.filters.get f
    let only := fun (c : Instr) (y : Channel) => exec c s = .next { s with channels := s.channels.set f y }
    let settling := fun (y : Channel) (stop : Stop) =>
      { y with state := .settling, speed := 0, residue := 0, overrun := false, settleStop := some stop,
               settleTimer := some s.settings.detentSettle }
    let begun := fun (y : Channel) (d : Dir) =>
      { y with state := .moving, dir := some d, dirOut := d == .cw, speed := ch.profile.startSpeed, residue := 0,
               creep := ch.profile.startCreep, overrun := false }
    (∀ r : TravelRequest, s.requests.get f = some r → r.requester ≠ .backwashLine → s.stopActive = true →
      ch.state = .settling → ch.settleStop = some r.target →
      ∃ t, exec (.detentClose f) s = .next t ∧ (s.updChannel f fun y => { y with detent := true }).Undisturbed t ∧
        t.requests.get f = none ∧
        t.channels.get f = { ch with
          detent := true, state := .idle, position := some r.target.position, seated := true, speed := 0, residue := 0,
          overrun := false, settleTimer := none, settleStop := none, edge := none, homing := none } ∧
        (x.state = .joining →
          t.filters.get f = { x with
            state := .service, minuteTimer := true, recheckTimer := true,
            dpTimer := if x.dpActive = true then .running s.settings.dpHold else .stopped } ∧
          ∀ k, x.circuit = some k → (t.ports.get (.circuit k)).hasNotice .filterJoined = true ∧
            t.pathOpen.get k = true) ∧
        (x.state = .leaving → t.filters.get f = x.outside .standby) ∧
        (x.state = .parking → t.filters.get f = x.outside .outOfUse)) ∧
    (ch.state = .idle → ch.seated = true → x.state = .service ∨ x.state = .standby → s.requests.get f = none →
      f ∉ s.travelQueue → (∀ r, s.line.clean = some r → r.filter ≠ f) →
      ∃ t, exec (.detentLossAtRest f) s = .next t ∧ t.filters.get f = x.inFault .positionLost ∧
        t.channels.get f = { ch with detent := false, state := .faulted, position := none, seated := false }) ∧
    (s.Quiet →
      (∀ (r : TravelRequest) (stop : Stop), s.requests.get f = some r → ch.state = .settling →
        ch.settleStop = some stop → r.target ≠ stop →
        let y := { ch with detent := true, position := some (200 * stop.number), seated := true, speed := 0,
                           residue := 0, settleTimer := none, settleStop := none, homing := none }
        let clockwise := (200 * r.target.number + 1600 - 200 * stop.number) % 1600
        (s.slots.holds f = true → s.pauseCondition = false → ch.overrun = false → s.NoHandOut →
          ∀ d : Dir, (d = .cw ∧ clockwise ≤ 800 ∧ ch.cwTorque = false) ∨
            (d = .ccw ∧ 800 < clockwise ∧ ch.ccwTorque = false) →
          (ch.dir = none ∨ ch.dir = some d → only (.detentClose f) (begun y d)) ∧
          (ch.dir.isSome = true → ch.dir ≠ some d → only (.detentClose f) { y with state := .dwell })) ∧
        (s.slots.holds f = false → s.slots.hasFree = false ∨ s.pauseCondition = true →
          exec (.detentClose f) s = .next { s with
            channels := s.channels.set f { y with state := .waiting },
            requests := s.requests.set f (some { r with active := false }), travelQueue := s.travelQueue ++ [f] })) ∧
      (ch.state = .idle → ch.seated = true → x.state = .outOfUse ∨ x.state = .fault →
        only (.detentLossAtRest f) { ch with detent := false, state := .faulted, position := none, seated := false }) ∧
      (ch.state ≠ .settling → only (.detentClose f) { ch with detent := true }) ∧
      (ch.seated = false ∨ ch.state ∈ [.unreferenced, .settling, .faulted] →
        only (.detentLossAtRest f) { ch with detent := false }) ∧
      (ch.state ≠ .moving → only (.torqueTrip f .cw true) { ch with cwTorque := true } ∧
        only (.torqueTrip f .ccw true) { ch with ccwTorque := true }) ∧
      (ch.state = .moving → (∀ e, ch.edge = some e → ch.homing = some .clear → e.rising = true ∨ ch.search < 1700) →
        ∀ d, ch.dir = some d → only (.homeEdgeRaw f true)
        { ch with edge := some { position := ch.position, dir := d, rising := true, steps := 0 } }) ∧
      (ch.state ≠ .moving → (∀ e, ch.edge = some e → e.rising = true) → exec (.homeEdgeRaw f true) s = .next s) ∧
      (ch.homing = some .clear → only (.homeEdgeRaw f false)
        { ch with edge := some { position := ch.position, dir := ch.dir.getD .cw, rising := false, steps := 0 } }) ∧
      (ch.homing ≠ some .clear → (∀ e, ch.edge = some e → e.rising = false) →
        exec (.homeEdgeRaw f false) s = .next s) ∧
      (ch.edge = none → only (.homeEdgeConfirmed f true) { ch with home := true }) ∧
      (ch.state ∈ [.moving, .paused, .dwell, .settling] → ch.homing = some .clear →
        only (.homeEdgeConfirmed f false) { ch with home := false, edge := none, homing := some .search, search := 0 }) ∧
      (ch.homing ≠ some .clear → (∀ e, ch.edge = some e → ch.homing = some .search → e.rising = true → ch.search < 1700) →
        only (.homeEdgeConfirmed f false) { ch with home := false, edge := none }) ∧
      (∀ (r : TravelRequest) (e : EdgeRecord), s.requests.get f = some r → ch.edge = some e →
        (∀ recorded p : Nat, e.rising = true → ch.homing = none → ch.state ∈ [.moving, .paused, .dwell, .settling] →
          e.position = some recorded → recorded < 1600 → ch.position = some p → p < 1600 →
          let place := match e.dir with | .cw => 1595 | .ccw => 5
          let drift := (place + 1600 - recorded) % 1600
          drift ≤ 8 ∨ 1592 ≤ drift →
          let y := { ch with home := true, edge := none, position := some ((p + drift) % 1600) }
          let onward := match ch.dir with
            | some .ccw => if drift ≤ 8 then 0 else 1600 - drift
            | _ => if drift ≤ 8 then drift else 0
          let left := match ch.dir with
            | some .ccw => (p + 1600 - 200 * r.target.number) % 1600
            | _ => (200 * r.target.number + 1600 - p) % 1600
          (ch.state ≠ .moving ∨ onward = 0 ∨ onward < left → only (.homeEdgeConfirmed f true) y) ∧
          (ch.state = .moving → ch.dir.isSome = true → 0 < onward → left ≤ onward → ch.detent = false → s.NoHandOut →
            only (.homeEdgeConfirmed f true) (settling y r.target))) ∧
        (ch.state ∈ [.moving, .paused, .dwell, .settling] → e.rising = true → ch.homing = some .search →
          let y := { ch with home := true, edge := none, search := 0, position := some ((1595 + e.steps) % 1600) }
          (e.steps < 5 → only (.homeEdgeConfirmed f true) { y with homing := some .approach }) ∧
          (e.steps = 5 → ch.detent = false → s.NoHandOut →
            only (.homeEdgeConfirmed f true) (settling { y with homing := some .approach } .closed)) ∧
          (5 < e.steps → e.steps < 805 →
            let z := { y with homing := none, speed := 0, residue := 0 }
            (ch.state ≠ .moving → only (.homeEdgeConfirmed f true) z) ∧
            (ch.state = .moving → ch.dir = some .cw → s.NoHandOut →
              (ch.ccwTorque = false → only (.homeEdgeConfirmed f true) { z with state := .dwell }) ∧
              (ch.ccwTorque = true → ch.cwTorque = false → ch.overrun = false → s.pauseCondition = false →
                only (.homeEdgeConfirmed f true) (begun z .cw))))) ∧
        (e.rising = true → ch.homing = some .approach →
          only (.homeEdgeConfirmed f true) { ch with home := true, edge := none }) ∧
        (ch.homing = some .clear → e.rising = true ∨ ch.search < 1700 →
          only (.homeEdgeConfirmed f true) { ch with home := true, edge := none })) ∧
      (∀ rising : Bool, (∃ e, ch.edge = some e ∧ e.rising = rising) →
        ch.search < 1700 ∨ ch.homing ≠ some (if rising = true then .search else .clear) →
        only (.homeEdgeHoldFails f) { ch with edge := none } ∧
        ((rising = true → ch.homing ≠ some .clear) → (rising = false → ch.state ≠ .moving) →
          only (.homeEdgeRaw f (!rising)) { ch with edge := none })) ∧
      (ch.edge = none → exec (.homeEdgeHoldFails f) s = .next s))

/-- ARRIVED at stop 5 or 6 begins the run phase with the pump on, or suspends the Line; under plant stop it waits
(R70, R71, R74, R79, R82, R96, R119). The stop of a settle is the model's own item (log entry 24), and the search
counter that the end of a travel leaves is its choice (log entry 19). -/
def Obligations.ArrivalsBeginTheRunPhases : Prop :=
  ∀ (s : State) (r : LineRecord) (q : TravelRequest), s.Quiet → s.line.clean = some r →
    let f := r.filter
    let ch := s.channels.get f
    s.requests.get f = some q → q.requester = .backwashLine → ch.state = .settling → ch.settleStop = some q.target →
    f ∉ s.travelQueue → s.travelQueue = [] ∨ s.pauseCondition = true →
    let becomes := fun l : Line => exec (.detentClose f) s = .next
      { s.travelEnded f (ch.arrivedAt q.target) with line := l }
    let run := fun (p : Phase) (minutes : Nat) =>
      let begun := { r with phase := p, heldPhase := none, counted := 0, phaseTimer := .running minutes, flowTimer := .running,
                            suspendTimer := none }
      let waits := { r with phase := .suspended, heldPhase := some p, phaseTimer := .stopped, flowTimer := .stopped,
                            suspendTimer := some s.settings.suspendLimit }
      (s.waste.lowLow = false → becomes { s.line with pump := true, clean := some begun }) ∧
      (s.waste.lowLow = true → becomes { s.line with clean := some waits })
    (r.phase = .toBackwash → run .backwashRun s.settings.backwashMaxTime) ∧
    (r.phase = .toRinse → run .rinseRun s.settings.rinseMaxTime) ∧
    (r.phase = .stopHeld → r.heldPhase ≠ some .returning → becomes s.line)

/-- ARRIVED in RETURNING ends the clean: UNRINSED to FAULT; otherwise the record is set, the filter returned and filed
again (R8, R40, R43, R48, R78, R82). The stop of a settle is the model's own item (log entry 24), and the search
counter that the end of a travel leaves is its choice (log entry 19). -/
def Obligations.ReturnsEndTheClean : Prop :=
  ∀ (s : State) (r : LineRecord) (q : TravelRequest), s.line.clean = some r →
    let f := r.filter
    let ch := s.channels.get f
    let x := s.filters.get f
    x.state = .cleaning → s.requests.get f = some q → q.requester = .backwashLine → ch.state = .settling →
    ch.settleStop = some q.target →
    r.phase = .returning ∨ (r.phase = .stopHeld ∧ r.heldPhase = some .returning) →
    let o := r.outcome
    ∃ t, exec (.detentClose f) s = .next t ∧ (s.updChannel f fun y => { y with detent := true }).Undisturbed t ∧
      (s.NoGrant → t.line = { s.line with clean := none }) ∧
      (r.exitUnrinsed = true →
        t.filters.get f = { x with lastOutcome := if o = CleanOutcome.none then .aborted else o }.inFault .unrinsed ∧
        t.requests.get f = none ∧ t.channels.get f = ch.arrivedAt q.target ∧ (∀ e ∈ t.queue, e.filter ≠ f) ∧
        (∀ z, t.line.clean = some z → z.filter ≠ f) ∧ (t.ports.get .plant).hasNotice .filterFault = true ∧
        (∀ k, x.circuit = some k → (t.ports.get (.circuit k)).hasNotice .filterFault = true) ∧
        ∀ k, r.startCircuit = some k → (t.ports.get (.circuit k)).hasNotice .backwashAborted = true) ∧
      (r.exitUnrinsed = false →
        let y := x.cleaned o
        let z := t.filters.get f
        z.throughput = y.throughput ∧ z.runTime = y.runTime ∧ z.grace = y.grace ∧
        z.backwashCount = y.backwashCount ∧ (s.NoGrant → z.lastOutcome = o) ∧
        (∀ k, r.startCircuit = some k → (t.ports.get (.circuit k)).hasNotice
          (if o = .complete ∨ o = .short then .backwashDone else .backwashAborted) = true) ∧
        (∀ k, x.circuit = some k → (t.ports.get (.circuit k)).hasNotice
          (if r.returnTarget = .closed then .filterLeft else .filterJoined) = true) ∧
        (s.stopActive = true → s.QueueLaw →
          let urgent := fun e : FilterId × Reasons => e.2.pressure
          let entry := (f, { r.reasons with retry := true })
          let filed := if r.reasons.pressure = true
            then s.entries.filter urgent ++ entry :: s.entries.filter fun e => !urgent e
            else s.entries ++ [entry]
          let above := s.settings.throughputLimit * 1000 ≤ y.throughput
          let late := s.settings.runTimeLimit * 60 ≤ y.runTime
          z = (if r.returnTarget = .closed
            then { y with circuit := none, cover := false, releaseOnReturn := false }.outside .standby
            else { y with releaseOnReturn := false }.inService s.settings.dpHold) ∧
          t.requests.get f = none ∧ t.channels.get f = ch.arrivedAt q.target ∧
          (r.returnTarget = .closed ∨ (¬ above ∧ ¬ late) → t.entries = if r.requeue = true then filed else s.entries) ∧
          (r.returnTarget ≠ .closed →
            (above → ∃ e ∈ t.queue, e.filter = f ∧ e.reasons.throughput = true) ∧
            (late → ∃ e ∈ t.queue, e.filter = f ∧ e.reasons.runTime = true))))

/-- A selector fault or a detent loss at rest ends the clean: pump off, the filter in FAULT, BACKWASH_ABORTED posted
(R69, R87, R88, R89, R99, R118, R119, R121, R122, R125). That the loads are reset for any outcome COMPLETE or SHORT,
also of a SHORT clean that faults before its rinse, is the model's reading of R87 (log entry 14). The search counter
that a failed travel keeps is its choice (log entry 19). -/
def Obligations.FailedTravelsEndTheClean : Prop :=
  ∀ (s : State) (r : LineRecord), s.line.clean = some r →
    let f := r.filter
    let ch := s.channels.get f
    let x := s.filters.get f
    x.state = .cleaning →
    let ends := fun (c : Instr) (contact : Channel → Channel) (kind : FaultKind) (ci : Channel) =>
      ∃ t, exec c s = .next t ∧ (s.updChannel f contact).Undisturbed t ∧
        t.filters.get f = (x.cleaned (if r.outcome = .none then .aborted else r.outcome)).inFault kind ∧
        t.requests.get f = none ∧ f ∉ t.travelQueue ∧ t.channels.get f = ci ∧ (∀ e ∈ t.queue, e.filter ≠ f) ∧
        (∀ z, t.line.clean = some z → z.filter ≠ f) ∧
        (s.NoGrant → t.line = { s.line with pump := false, clean := none }) ∧
        (t.ports.get .plant).hasNotice .filterFault = true ∧
        (∀ k, x.circuit = some k → (t.ports.get (.circuit k)).hasNotice .filterFault = true) ∧
        ∀ k, r.startCircuit = some k → (t.ports.get (.circuit k)).hasNotice .backwashAborted = true
    let fails := fun (c : Instr) (contact : Channel → Channel) (kind : FaultKind) (count : Option Nat) =>
      ends c contact kind ((contact ch).failedAt count)
    (∀ q : TravelRequest, s.requests.get f = some q → q.requester = .backwashLine →
      (ch.state = .moving → ch.dir = some .cw → ch.cwTorque = false →
        fails (.torqueTrip f .cw true) (fun y => { y with cwTorque := true }) .jammed ch.position) ∧
      (ch.state = .moving → ch.dir = some .ccw → ch.ccwTorque = false →
        fails (.torqueTrip f .ccw true) (fun y => { y with ccwTorque := true }) .jammed ch.position) ∧
      (ch.state = .dwell → s.pauseCondition = false → ch.homing = none → ch.position.isSome = true →
        ch.cwTorque = true → ch.ccwTorque = true → fails (.dwellExpiry f) id .jammed ch.position) ∧
      (ch.state = .settling → ch.settleTimer.isSome = true → fails (.settleTimeout f) id .positionLost none) ∧
      (ch.seated = true → ch.state ∈ [.waiting, .dwell, .moving, .paused] →
        fails (.detentLossAtRest f) (fun y => { y with detent := false }) .positionLost none) ∧
      (∀ (e : EdgeRecord) (recorded : Nat), ch.edge = some e → e.rising = true → e.position = some recorded →
        recorded < 1600 → ch.position.isSome = true → ch.homing = none →
        ch.state ∈ [.moving, .paused, .dwell, .settling] →
        let place := match e.dir with | .cw => 1595 | .ccw => 5
        let drift := (place + 1600 - recorded) % 1600
        9 ≤ drift → drift ≤ 1591 →
        fails (.homeEdgeConfirmed f true) (fun y => { y with home := true }) .positionLost none)) ∧
    (ch.state = .idle → ch.seated = true → s.requests.get f = none → f ∉ s.travelQueue →
      ends (.detentLossAtRest f) (fun y => { y with detent := false }) .positionLost
        { ch with detent := false, state := .faulted, position := none, seated := false })

/-- A HOMING filter's arrival makes it STANDBY, filed with RETRY if it owes a rinse; the last report of the bank
enters RUNNING (R7, R48, R96, R119, R203). The stop of a settle is the model's own item (log entry 24), and the search
counter that the end of a travel leaves is its choice (log entry 19). -/
def Obligations.HomingEndsAreReported : Prop :=
  ∀ (s : State) (f : FilterId) (q : TravelRequest),
    let ch := s.channels.get f
    let x := s.filters.get f
    x.state = .homing → s.requests.get f = some q → q.requester = .homing → ch.state = .settling →
    s.travelQueue = [] ∨ s.pauseCondition = true → (∀ r, s.line.clean = some r → r.filter ≠ f) →
    let others := ∃ g, g ≠ f ∧ s.bankHoming.get g = true
    let reported := fun t : State =>
      (s.bankHoming.get f = true → ¬ others → t.plant = .running ∧ (∀ g, t.bankHoming.get g = false) ∧
        (t.ports.get .plant).hasNotice .homingDone = true ∧ ∀ c, (t.doses.get c).reasons.notRunning = false) ∧
      (s.bankHoming.get f = true → others → t.plant = s.plant ∧ t.bankHoming = s.bankHoming.set f false) ∧
      (s.bankHoming.get f = false → t.plant = s.plant ∧ t.bankHoming = s.bankHoming)
    (ch.settleTimer.isSome = true → ∃ t, exec (.settleTimeout f) s = .next t ∧ s.Undisturbed t ∧ reported t ∧
      t.filters.get f = x.inFault .positionLost) ∧
    (ch.settleStop = some q.target → ∃ t, exec (.detentClose f) s = .next t ∧
      (s.updChannel f fun y => { y with detent := true }).Undisturbed t ∧ reported t ∧
      (s.stopActive = true ∨ (s.plant = .homing ∧ s.bankHoming.get f = true ∧ others) →
        t.filters.get f = x.outside .standby ∧ t.requests.get f = none ∧
        t.channels.get f = ch.arrivedAt q.target ∧
        (s.QueueLaw →
          (x.rinseOwed = false → t.entries = s.entries) ∧
          (x.rinseOwed = true → t.entries = s.entries ++ [(f, { retry := true })]))))

/-- Each step of an allocation pass does what its rule says: minimums, transfers, wanted counts, covers, releases
(R13, R15, R16, R17, R18, R19, R20). A floor-blocked entry is read as last recorded (log entry 11); the allowed count
is formed again after each release, and is W where W is 0 (log entry 12); a filter changed twice stands at its last
change (log entry 13); and a donor keeps its filters that are no cover first (log entry 38). These are the model's
readings. -/
def Obligations.PassStepsFollowTheirRules : Prop :=
  let record := fun (w : PassWork) (f : FilterId) => w.state.filters.get f
  let spare := fun w : PassWork => allFilters.filter fun f => (record w f).state == .standby && !(record w f).rinseOwed
  let serves := fun (w : PassWork) (c : CircuitId) (f : FilterId) =>
    (record w f).state = .service ∧ (record w f).circuit = some c
  let count := fun (c : CircuitId) (w : PassWork) (test : FilterRecord → Bool) =>
    (allFilters.filter fun f => (record w f).circuit == some c && test (record w f)).length
  let service := fun (w : PassWork) (c : CircuitId) => count c w fun y => y.state == .service
  let active := fun (w : PassWork) (c : CircuitId) => count c w fun y => y.state == .service || y.state == .joining
  let held := fun (w : PassWork) (c : CircuitId) => count c w fun y =>
    y.state == .service || y.state == .joining || (y.state == .cleaning && !y.releaseOnReturn)
  let becomes := fun (w u : PassWork) (fs : List FilterId) (g : FilterRecord → FilterRecord) =>
    u.changed = (w.changed.filter fun f => !fs.contains f) ++ fs ∧
    u.state = { w.state with filters := u.state.filters, due := u.state.due } ∧
    ∀ f, record u f = if f ∈ fs then g (record w f) else record w f
  let joins := fun (w u : PassWork) (fs : List FilterId) (c : CircuitId) (cover : Bool) =>
    becomes w u fs fun y => { y with circuit := some c, cover := cover }.outside .joining
  let need := fun (w : PassWork) (c : CircuitId) => w.state.circuits.get c
  let blocked := fun (w : PassWork) (c : CircuitId) =>
    ∃ e ∈ w.state.queue, e.eligibility = .floorBlocked ∧ serves w c e.filter
  let covered := fun (w : PassWork) (c : CircuitId) => ∃ f, (record w f).cover = true ∧ (record w f).circuit = some c
  let cleans := fun (w : PassWork) (c : CircuitId) (f : FilterId) =>
    (record w f).state = .cleaning ∧ (record w f).circuit = some c
  (∀ s : State, s.passSteps =
    let order := [s.settings.priority.first, s.settings.priority.second, s.settings.priority.third,
      s.settings.priority.fourth]
    [PassWork.meetMinimum, PassWork.meetByTransfer, PassWork.meetWanted, PassWork.bringCover, PassWork.releaseSurplus,
      PassWork.clearCover].foldl (fun w step => order.foldl step w) { state := s, changed := [], left := [] }) ∧
  ∀ (w : PassWork) (c : CircuitId),
    (let u := w.meetMinimum c
     u.left = w.left ∧ joins w u ((spare w).take ((need w c).minimum - active w c)) c false) ∧
    (let short := active w c < (need w c).minimum
     let keep := fun d : CircuitId => let least := (need w d).minimum
       if w.state.flowProven d = true then max least 1 else least
     let donates := fun d : CircuitId => d ≠ c ∧ keep d < service w d
     let plain := fun d : CircuitId => count d w fun y => y.state == .service && !y.cover
     let order := [w.state.settings.priority.fourth, w.state.settings.priority.third,
       w.state.settings.priority.second, w.state.settings.priority.first]
     (¬ short ∨ (∀ d ∈ order, ¬ donates d) → w.transfer c = w) ∧
     ∀ (d : CircuitId) (f : FilterId), short → order.find? (fun d => decide (donates d)) = some d → serves w d f →
       ((record w f).cover = true ↔ plain d ≤ keep d) →
       (∀ g, serves w d g → (record w g).cover = (record w f).cover → filterNumber g ≤ filterNumber f) →
       joins w (w.transfer c) [f] c false ∧ (w.transfer c).left = w.left ++ [d]) ∧
    (w.meetByTransfer c).transfer c = w.meetByTransfer c ∧
    (let u := w.unmark c
     let wants := held w c < (need w c).wanted
     let marked := fun f => cleans w c f ∧ (record w f).releaseOnReturn = true
     (¬ wants ∨ (∀ f, ¬ marked f) → u = w) ∧
     (∀ f, wants → marked f → (∀ g, marked g → filterNumber f ≤ filterNumber g) →
       u = { w with state := w.state.updFilter f fun y => { y with releaseOnReturn := false } }) ∧
     (w.meetWanted c).left = w.left ∧
     joins u (w.meetWanted c) ((spare w).take ((need w c).wanted - held u c)) c false) ∧
    (let u := w.bringCover c
     u.left = w.left ∧ (blocked w c ∧ ¬ covered w c → joins w u ((spare w).take 1) c true) ∧
     (¬ (blocked w c ∧ ¬ covered w c) → u = w)) ∧
    (let W := (need w c).wanted
     let surplus := fun v : PassWork => W + 1 < held v c ∨
       (W < held v c ∧ ¬ (0 < W ∧ covered v c ∧ (blocked v c ∨ ∃ f, cleans v c f)))
     let rank := fun f : FilterId => let y := record w f
       if y.circuit ≠ some c then 4
       else if (y.state = .service ∨ y.state = .joining) ∧ y.cover = true then 0
       else if y.state = .service then 1
       else if y.state = .joining then 2
       else if y.state = .cleaning ∧ y.releaseOnReturn = false then 3
       else 4
     (¬ surplus w → w.release c = w) ∧
     (∀ f, surplus w → rank f ≤ 3 →
       (∀ g, rank f ≤ rank g ∧ (rank g = rank f → filterNumber g ≤ filterNumber f)) →
       (rank f ≤ 2 → (w.release c).left = w.left ++ [c] ∧
         becomes w (w.release c) [f] fun y => { y with circuit := none, cover := false }.outside .leaving) ∧
       (rank f = 3 →
         w.release c = { w with state := w.state.updFilter f fun y => { y with releaseOnReturn := true } })) ∧
     ¬ surplus (w.releaseSurplus c)) ∧
    (let u := w.clearCover c
     (blocked w c ∨ (∃ f, cleans w c f) → u = w) ∧
     (¬ blocked w c → (∀ f, ¬ cleans w c f) → u.changed = w.changed ∧ u.left = w.left ∧
       u.state = { w.state with filters := u.state.filters } ∧
       ∀ f, record u f = if (record w f).circuit = some c then { record w f with cover := false } else record w f))

/-- Intervals under the surge input, with the overrun mark, in APPROACH, and one that ends over a closed detent (R6,
R102, R105, R106, R109, R112, R113, R119, R126, R127, R128, R129). The pulses, the steps in an open edge record and
the stop of a settle are the model's own items (log entries 24 and 30), and so is the search counter's course in
APPROACH and after a travel's end (log entry 19). That SLOW_HOLD leaves the latch of a homing channel as it is (log
entry 32), and that the overrun stop brakes without a cap under a surge pause too, is the model's reading (log entry
18). -/
def Obligations.IntervalsUnderSurgeAndOverrun : Prop :=
  ∀ (s : State) (f : FilterId) (r : TravelRequest), s.Quiet → s.requests.get f = some r →
    let ch := s.channels.get f
    let q := ch.profile
    ch.state = .moving →
    let becomes := fun x : Channel => exec (.profileInterval f) s = .next { s with channels := s.channels.set f x }
    let pauses := becomes { ch with state := .paused, speed := 0, residue := 0, overrun := false }
    let mode := s.settings.surgeMode
    let latch := ch.slowLatch || (s.surge && mode == .slowHold)
    let emitted := fun (v n : Nat) =>
      { ch with speed := v, residue := (v + ch.residue) % 100, creep := ch.creep - n, pulses := ch.pulses + n,
                seated := ch.seated && n = 0, slowLatch := latch,
                edge := ch.edge.map fun e : EdgeRecord => { e with steps := e.steps + n } }
    let settled := fun (x : Channel) (stop : Stop) =>
      { x with state := .settling, speed := 0, residue := 0, overrun := false, settleStop := some stop,
               settleTimer := some s.settings.detentSettle }
    let amount := if ch.speed ≤ q.startSpeed + q.softBand ∨ q.runSpeed < ch.speed + q.softBand
      then max 1 (q.speedStep / 2) else q.speedStep
    let brake := max (ch.speed - amount) q.startSpeed
    let v := if 0 < ch.creep then q.startSpeed else if q.startSpeed < ch.speed then brake else ch.speed
    (∀ (p : Nat) (d : Dir), ch.homing = none → ch.dir = some d → ch.position = some p → p < 1600 →
      let stop := 200 * r.target.number
      let left := match d with
        | .cw => (stop + 1600 - p) % 1600
        | .ccw => (p + 1600 - stop) % 1600
      let steps := fun n : Nat => match d with
        | .cw => (p + n) % 1600
        | .ccw => (p + 1600 - n) % 1600
      let n := (v + ch.residue) / 100
      let goes := becomes { emitted v n with position := some (steps n) }
      (ch.overrun = false → s.surge = true →
        (mode = .slow ∨ mode = .slowHold → n < left → goes) ∧
        (mode = .pause → q.startSpeed < ch.speed → n < left → goes) ∧
        (mode = .pause → ch.speed ≤ q.startSpeed → 0 < left → pauses)) ∧
      (ch.overrun = true → ch.creep = 0 →
        (q.startSpeed < ch.speed → n < 1600 → goes) ∧
        (ch.speed ≤ q.startSpeed → s.surge = true → mode = .pause → pauses) ∧
        (ch.speed ≤ q.startSpeed → s.surge = false ∨ mode ≠ .pause → s.NoHandOut →
          (0 < left → ch.cwTorque = false ∨ ch.ccwTorque = false →
            becomes { ch with state := .dwell, speed := 0, residue := 0, slowLatch := latch }) ∧
          (left = 0 → ch.detent = false → becomes (settled { ch with slowLatch := latch } r.target)))) ∧
      (∀ n, ch.overrun = false → s.surge = false → ch.detent = true → (s.filters.get f).state = .parking →
        r.requester = .maintenance → s.travelQueue = [] ∨ s.pauseCondition = true →
        (∀ e ∈ s.queue, e.filter ≠ f) → (∀ x, s.line.clean = some x → x.filter ≠ f) → left = n →
        n = 0 ∨ (0 < ch.creep ∧ n ≤ (q.startSpeed + ch.residue) / 100) →
        let moved := { ch with creep := ch.creep - n, pulses := ch.pulses + n }
        ∃ t, exec (.profileInterval f) s = .next t ∧ (s.updChannel f fun _ => moved).Undisturbed t ∧
          t.channels.get f = moved.arrivedAt r.target ∧ t.requests.get f = none ∧
          t.filters.get f = (s.filters.get f).outside .outOfUse)) ∧
    (∀ p, ch.homing = some .approach → ch.position = some p → p < 1600 → s.surge = false ∨ mode ≠ .pause →
      let left := (1600 - p) % 1600
      let n := (q.startSpeed + ch.residue) / 100
      let moved := fun k : Nat =>
        { emitted q.startSpeed k with
          position := some ((p + k) % 1600), search := min (ch.search + k) 1700, slowLatch := ch.slowLatch }
      (n < left → becomes (moved n)) ∧
      (left ≤ n → ch.detent = false → s.NoHandOut → becomes (settled (moved left) .closed))) ∧
    (ch.homing = some .clear ∨ ch.homing = some .search → ch.position = none → ch.edge = none →
      s.surge = false ∨ mode ≠ .pause →
      let n := (q.startSpeed + ch.residue) / 100
      ch.search + n < 1700 →
        becomes { emitted q.startSpeed n with search := ch.search + n, slowLatch := ch.slowLatch }) ∧
    (ch.homing.isSome = true → s.surge = true → mode = .pause → pauses)

/-- At most two selectors turn or are about to, each with its slot; requests, states and speeds agree, at every step
(R92, R94, R95, R97, R98, R105). That the law holds at power-on is a clause of PowerOnBlocks. -/
def Obligations.DriveLawsAreKept : Prop :=
  ∀ s t : State, s.DriveLaw → step s = .next t →
    t.DriveLaw ∧ (allFilters.filter fun f => (t.channels.get f).state.needsSlot).length ≤ 2

/-- BWPUMP runs only in a run phase over its stop; one filter is CLEANING; one cover a circuit: kept at every step
(R3, R4, R53, R67, R69, R70, R75, R79, R82). That the law holds at power-on is a clause of PowerOnBlocks. -/
def Obligations.WorkLawsAreKept : Prop :=
  ∀ s t : State, s.WorkLaw → step s = .next t →
    t.WorkLaw ∧
    (t.line.pump = true → t.stopActive = false ∧ t.waste.lowLow = false ∧ ∃ r, t.line.clean = some r ∧
      ((r.phase = .backwashRun ∧ (t.channels.get r.filter).SeatedAt .backwash) ∨
        (r.phase = .rinseRun ∧ (t.channels.get r.filter).SeatedAt .rinse))) ∧
    (∀ f, (t.filters.get f).state = .cleaning ↔ ∃ r, t.line.clean = some r ∧ r.filter = f) ∧
    (∀ f g, (t.filters.get f).cover = true → (t.filters.get g).cover = true →
      (t.filters.get f).circuit = (t.filters.get g).circuit → f = g)

end
end

