-- ==== Sys2Proof/Laws/State.lean ====
section
/-! SUPPORT. Reading the state after one of its updates: the items of the families, and one lemma for each field of
`State` and each update of Machine/Ops.lean. -/

namespace Sys2Proof

/-! ## Families -/

@[simp] theorem Bank.get_set_same {α : Type} (b : Bank α) (f : FilterId) (x : α) : (b.set f x).get f = x := by
  cases f <;> rfl

theorem Bank.get_set_ne {α : Type} (b : Bank α) {f g : FilterId} (h : g ≠ f) (x : α) :
    (b.set f x).get g = b.get g := by
  cases f <;> cases g <;> first | rfl | exact absurd rfl h

theorem Bank.get_set {α : Type} (b : Bank α) (f g : FilterId) (x : α) :
    (b.set f x).get g = if g = f then x else b.get g := by
  cases f <;> cases g <;> rfl

@[simp] theorem Bank.get_all {α : Type} (x : α) (f : FilterId) : (Bank.all x).get f = x := by
  cases f <;> rfl

@[simp] theorem Bank.set_get {α : Type} (b : Bank α) (f : FilterId) : b.set f (b.get f) = b := by
  cases f <;> rfl

theorem Bank.ext_get {α : Type} {a b : Bank α} (h : ∀ f, a.get f = b.get f) : a = b := by
  have h1 := h .f1; have h2 := h .f2; have h3 := h .f3; have h4 := h .f4; have h5 := h .f5; have h6 := h .f6
  cases a; cases b; simp_all [Bank.get]

@[simp] theorem PerCircuit.get_set_same {α : Type} (b : PerCircuit α) (c : CircuitId) (x : α) :
    (b.set c x).get c = x := by
  cases c <;> rfl

theorem PerCircuit.get_set_ne {α : Type} (b : PerCircuit α) {c d : CircuitId} (h : d ≠ c) (x : α) :
    (b.set c x).get d = b.get d := by
  cases c <;> cases d <;> first | rfl | exact absurd rfl h

theorem PerCircuit.get_set {α : Type} (b : PerCircuit α) (c d : CircuitId) (x : α) :
    (b.set c x).get d = if d = c then x else b.get d := by
  cases c <;> cases d <;> rfl

@[simp] theorem PerCircuit.get_all {α : Type} (x : α) (c : CircuitId) : (PerCircuit.all x).get c = x := by
  cases c <;> rfl

@[simp] theorem PerCircuit.set_get {α : Type} (b : PerCircuit α) (c : CircuitId) : b.set c (b.get c) = b := by
  cases c <;> rfl

theorem PerCircuit.ext_get {α : Type} {a b : PerCircuit α} (h : ∀ c, a.get c = b.get c) : a = b := by
  have h1 := h .A; have h2 := h .B; have h3 := h .C; have h4 := h .D
  cases a; cases b; simp_all [PerCircuit.get]

@[simp] theorem PerPort.get_set_same {α : Type} (b : PerPort α) (p : PortId) (x : α) : (b.set p x).get p = x := by
  cases p <;> simp [PerPort.get, PerPort.set]

theorem PerPort.get_set_ne {α : Type} (b : PerPort α) {p q : PortId} (h : q ≠ p) (x : α) :
    (b.set p x).get q = b.get q := by
  cases p <;> cases q <;> first | exact absurd rfl h | rfl | skip
  exact PerCircuit.get_set_ne _ (fun e => h (by rw [e])) _

theorem PerPort.get_set {α : Type} (b : PerPort α) (p q : PortId) (x : α) :
    (b.set p x).get q = if q = p then x else b.get q := by
  split
  · next h => rw [h]; exact PerPort.get_set_same b p x
  · next h => exact PerPort.get_set_ne b h x

theorem PerPort.ext_get {α : Type} {a b : PerPort α} (h : ∀ p, a.get p = b.get p) : a = b := by
  have e : a.circuits = b.circuits := PerCircuit.ext_get fun c => h (.circuit c)
  have f : a.plant = b.plant := h .plant
  cases a; cases b; simp_all

theorem mem_allFilters (f : FilterId) : f ∈ allFilters := by
  cases f <;> decide

theorem mem_allCircuits (c : CircuitId) : c ∈ allCircuits := by
  cases c <;> decide

theorem mem_allPorts (p : PortId) : p ∈ allPorts := by
  rcases p with c | _
  · cases c <;> decide
  · decide

namespace Machine

/-! ## One field after one update -/

variable (s : State)

/-! ### updFilter -/

@[simp] theorem State.updFilter_filters (f : FilterId) (g : FilterRecord → FilterRecord) :
    (s.updFilter f g).filters = s.filters.set f (g (s.filters.get f)) := rfl
@[simp] theorem State.updFilter_pathOpen (f : FilterId) (g : FilterRecord → FilterRecord) :
    (s.updFilter f g).pathOpen = s.pathOpen := rfl
@[simp] theorem State.updFilter_creditPointer (f : FilterId) (g : FilterRecord → FilterRecord) :
    (s.updFilter f g).creditPointer = s.creditPointer := rfl
@[simp] theorem State.updFilter_flow (f : FilterId) (g : FilterRecord → FilterRecord) :
    (s.updFilter f g).flow = s.flow := rfl
@[simp] theorem State.updFilter_queue (f : FilterId) (g : FilterRecord → FilterRecord) :
    (s.updFilter f g).queue = s.queue := rfl
@[simp] theorem State.updFilter_line (f : FilterId) (g : FilterRecord → FilterRecord) :
    (s.updFilter f g).line = s.line := rfl
@[simp] theorem State.updFilter_waste (f : FilterId) (g : FilterRecord → FilterRecord) :
    (s.updFilter f g).waste = s.waste := rfl
@[simp] theorem State.updFilter_channels (f : FilterId) (g : FilterRecord → FilterRecord) :
    (s.updFilter f g).channels = s.channels := rfl
@[simp] theorem State.updFilter_requests (f : FilterId) (g : FilterRecord → FilterRecord) :
    (s.updFilter f g).requests = s.requests := rfl
@[simp] theorem State.updFilter_travelQueue (f : FilterId) (g : FilterRecord → FilterRecord) :
    (s.updFilter f g).travelQueue = s.travelQueue := rfl
@[simp] theorem State.updFilter_slots (f : FilterId) (g : FilterRecord → FilterRecord) :
    (s.updFilter f g).slots = s.slots := rfl
@[simp] theorem State.updFilter_surge (f : FilterId) (g : FilterRecord → FilterRecord) :
    (s.updFilter f g).surge = s.surge := rfl
@[simp] theorem State.updFilter_doses (f : FilterId) (g : FilterRecord → FilterRecord) :
    (s.updFilter f g).doses = s.doses := rfl
@[simp] theorem State.updFilter_bulkLow (f : FilterId) (g : FilterRecord → FilterRecord) :
    (s.updFilter f g).bulkLow = s.bulkLow := rfl
@[simp] theorem State.updFilter_meters (f : FilterId) (g : FilterRecord → FilterRecord) :
    (s.updFilter f g).meters = s.meters := rfl
@[simp] theorem State.updFilter_circuits (f : FilterId) (g : FilterRecord → FilterRecord) :
    (s.updFilter f g).circuits = s.circuits := rfl
@[simp] theorem State.updFilter_stopActive (f : FilterId) (g : FilterRecord → FilterRecord) :
    (s.updFilter f g).stopActive = s.stopActive := rfl
@[simp] theorem State.updFilter_stopRead (f : FilterId) (g : FilterRecord → FilterRecord) :
    (s.updFilter f g).stopRead = s.stopRead := rfl
@[simp] theorem State.updFilter_ports (f : FilterId) (g : FilterRecord → FilterRecord) :
    (s.updFilter f g).ports = s.ports := rfl
@[simp] theorem State.updFilter_plant (f : FilterId) (g : FilterRecord → FilterRecord) :
    (s.updFilter f g).plant = s.plant := rfl
@[simp] theorem State.updFilter_settings (f : FilterId) (g : FilterRecord → FilterRecord) :
    (s.updFilter f g).settings = s.settings := rfl
@[simp] theorem State.updFilter_bankHoming (f : FilterId) (g : FilterRecord → FilterRecord) :
    (s.updFilter f g).bankHoming = s.bankHoming := rfl
@[simp] theorem State.updFilter_due (f : FilterId) (g : FilterRecord → FilterRecord) :
    (s.updFilter f g).due = s.due := rfl
@[simp] theorem State.updFilter_free (f : FilterId) (g : FilterRecord → FilterRecord) :
    (s.updFilter f g).free = s.free := rfl
@[simp] theorem State.updFilter_pending (f : FilterId) (g : FilterRecord → FilterRecord) :
    (s.updFilter f g).pending = s.pending := rfl

/-! ### raiseFlowMeter -/

@[simp] theorem State.raiseFlowMeter_meters (c : CircuitId) :
    (s.raiseFlowMeter c).meters = { s.meters with circuits := s.meters.circuits.set c true } := rfl
@[simp] theorem State.raiseFlowMeter_filters (c : CircuitId) : (s.raiseFlowMeter c).filters = s.filters := rfl
@[simp] theorem State.raiseFlowMeter_pathOpen (c : CircuitId) : (s.raiseFlowMeter c).pathOpen = s.pathOpen := rfl
@[simp] theorem State.raiseFlowMeter_creditPointer (c : CircuitId) : (s.raiseFlowMeter c).creditPointer = s.creditPointer := rfl
@[simp] theorem State.raiseFlowMeter_flow (c : CircuitId) : (s.raiseFlowMeter c).flow = s.flow := rfl
@[simp] theorem State.raiseFlowMeter_queue (c : CircuitId) : (s.raiseFlowMeter c).queue = s.queue := rfl
@[simp] theorem State.raiseFlowMeter_line (c : CircuitId) : (s.raiseFlowMeter c).line = s.line := rfl
@[simp] theorem State.raiseFlowMeter_waste (c : CircuitId) : (s.raiseFlowMeter c).waste = s.waste := rfl
@[simp] theorem State.raiseFlowMeter_channels (c : CircuitId) : (s.raiseFlowMeter c).channels = s.channels := rfl
@[simp] theorem State.raiseFlowMeter_requests (c : CircuitId) : (s.raiseFlowMeter c).requests = s.requests := rfl
@[simp] theorem State.raiseFlowMeter_travelQueue (c : CircuitId) : (s.raiseFlowMeter c).travelQueue = s.travelQueue := rfl
@[simp] theorem State.raiseFlowMeter_slots (c : CircuitId) : (s.raiseFlowMeter c).slots = s.slots := rfl
@[simp] theorem State.raiseFlowMeter_surge (c : CircuitId) : (s.raiseFlowMeter c).surge = s.surge := rfl
@[simp] theorem State.raiseFlowMeter_doses (c : CircuitId) : (s.raiseFlowMeter c).doses = s.doses := rfl
@[simp] theorem State.raiseFlowMeter_bulkLow (c : CircuitId) : (s.raiseFlowMeter c).bulkLow = s.bulkLow := rfl
@[simp] theorem State.raiseFlowMeter_circuits (c : CircuitId) : (s.raiseFlowMeter c).circuits = s.circuits := rfl
@[simp] theorem State.raiseFlowMeter_stopActive (c : CircuitId) : (s.raiseFlowMeter c).stopActive = s.stopActive := rfl
@[simp] theorem State.raiseFlowMeter_stopRead (c : CircuitId) : (s.raiseFlowMeter c).stopRead = s.stopRead := rfl
@[simp] theorem State.raiseFlowMeter_ports (c : CircuitId) : (s.raiseFlowMeter c).ports = s.ports := rfl
@[simp] theorem State.raiseFlowMeter_plant (c : CircuitId) : (s.raiseFlowMeter c).plant = s.plant := rfl
@[simp] theorem State.raiseFlowMeter_settings (c : CircuitId) : (s.raiseFlowMeter c).settings = s.settings := rfl
@[simp] theorem State.raiseFlowMeter_bankHoming (c : CircuitId) : (s.raiseFlowMeter c).bankHoming = s.bankHoming := rfl
@[simp] theorem State.raiseFlowMeter_due (c : CircuitId) : (s.raiseFlowMeter c).due = s.due := rfl
@[simp] theorem State.raiseFlowMeter_free (c : CircuitId) : (s.raiseFlowMeter c).free = s.free := rfl
@[simp] theorem State.raiseFlowMeter_pending (c : CircuitId) : (s.raiseFlowMeter c).pending = s.pending := rfl

/-! ### raiseWasteMeter -/

@[simp] theorem State.raiseWasteMeter_meters : s.raiseWasteMeter.meters = { s.meters with waste := true } := rfl
@[simp] theorem State.raiseWasteMeter_filters : s.raiseWasteMeter.filters = s.filters := rfl
@[simp] theorem State.raiseWasteMeter_pathOpen : s.raiseWasteMeter.pathOpen = s.pathOpen := rfl
@[simp] theorem State.raiseWasteMeter_creditPointer : s.raiseWasteMeter.creditPointer = s.creditPointer := rfl
@[simp] theorem State.raiseWasteMeter_flow : s.raiseWasteMeter.flow = s.flow := rfl
@[simp] theorem State.raiseWasteMeter_queue : s.raiseWasteMeter.queue = s.queue := rfl
@[simp] theorem State.raiseWasteMeter_line : s.raiseWasteMeter.line = s.line := rfl
@[simp] theorem State.raiseWasteMeter_waste : s.raiseWasteMeter.waste = s.waste := rfl
@[simp] theorem State.raiseWasteMeter_channels : s.raiseWasteMeter.channels = s.channels := rfl
@[simp] theorem State.raiseWasteMeter_requests : s.raiseWasteMeter.requests = s.requests := rfl
@[simp] theorem State.raiseWasteMeter_travelQueue : s.raiseWasteMeter.travelQueue = s.travelQueue := rfl
@[simp] theorem State.raiseWasteMeter_slots : s.raiseWasteMeter.slots = s.slots := rfl
@[simp] theorem State.raiseWasteMeter_surge : s.raiseWasteMeter.surge = s.surge := rfl
@[simp] theorem State.raiseWasteMeter_doses : s.raiseWasteMeter.doses = s.doses := rfl
@[simp] theorem State.raiseWasteMeter_bulkLow : s.raiseWasteMeter.bulkLow = s.bulkLow := rfl
@[simp] theorem State.raiseWasteMeter_circuits : s.raiseWasteMeter.circuits = s.circuits := rfl
@[simp] theorem State.raiseWasteMeter_stopActive : s.raiseWasteMeter.stopActive = s.stopActive := rfl
@[simp] theorem State.raiseWasteMeter_stopRead : s.raiseWasteMeter.stopRead = s.stopRead := rfl
@[simp] theorem State.raiseWasteMeter_ports : s.raiseWasteMeter.ports = s.ports := rfl
@[simp] theorem State.raiseWasteMeter_plant : s.raiseWasteMeter.plant = s.plant := rfl
@[simp] theorem State.raiseWasteMeter_settings : s.raiseWasteMeter.settings = s.settings := rfl
@[simp] theorem State.raiseWasteMeter_bankHoming : s.raiseWasteMeter.bankHoming = s.bankHoming := rfl
@[simp] theorem State.raiseWasteMeter_due : s.raiseWasteMeter.due = s.due := rfl
@[simp] theorem State.raiseWasteMeter_free : s.raiseWasteMeter.free = s.free := rfl
@[simp] theorem State.raiseWasteMeter_pending : s.raiseWasteMeter.pending = s.pending := rfl

/-! ### lowerFlowMeter -/

@[simp] theorem State.lowerFlowMeter_meters (c : CircuitId) :
    (s.lowerFlowMeter c).meters = { s.meters with circuits := s.meters.circuits.set c false } := rfl
@[simp] theorem State.lowerFlowMeter_filters (c : CircuitId) : (s.lowerFlowMeter c).filters = s.filters := rfl
@[simp] theorem State.lowerFlowMeter_pathOpen (c : CircuitId) : (s.lowerFlowMeter c).pathOpen = s.pathOpen := rfl
@[simp] theorem State.lowerFlowMeter_creditPointer (c : CircuitId) : (s.lowerFlowMeter c).creditPointer = s.creditPointer := rfl
@[simp] theorem State.lowerFlowMeter_flow (c : CircuitId) : (s.lowerFlowMeter c).flow = s.flow := rfl
@[simp] theorem State.lowerFlowMeter_queue (c : CircuitId) : (s.lowerFlowMeter c).queue = s.queue := rfl
@[simp] theorem State.lowerFlowMeter_line (c : CircuitId) : (s.lowerFlowMeter c).line = s.line := rfl
@[simp] theorem State.lowerFlowMeter_waste (c : CircuitId) : (s.lowerFlowMeter c).waste = s.waste := rfl
@[simp] theorem State.lowerFlowMeter_channels (c : CircuitId) : (s.lowerFlowMeter c).channels = s.channels := rfl
@[simp] theorem State.lowerFlowMeter_requests (c : CircuitId) : (s.lowerFlowMeter c).requests = s.requests := rfl
@[simp] theorem State.lowerFlowMeter_travelQueue (c : CircuitId) : (s.lowerFlowMeter c).travelQueue = s.travelQueue := rfl
@[simp] theorem State.lowerFlowMeter_slots (c : CircuitId) : (s.lowerFlowMeter c).slots = s.slots := rfl
@[simp] theorem State.lowerFlowMeter_surge (c : CircuitId) : (s.lowerFlowMeter c).surge = s.surge := rfl
@[simp] theorem State.lowerFlowMeter_doses (c : CircuitId) : (s.lowerFlowMeter c).doses = s.doses := rfl
@[simp] theorem State.lowerFlowMeter_bulkLow (c : CircuitId) : (s.lowerFlowMeter c).bulkLow = s.bulkLow := rfl
@[simp] theorem State.lowerFlowMeter_circuits (c : CircuitId) : (s.lowerFlowMeter c).circuits = s.circuits := rfl
@[simp] theorem State.lowerFlowMeter_stopActive (c : CircuitId) : (s.lowerFlowMeter c).stopActive = s.stopActive := rfl
@[simp] theorem State.lowerFlowMeter_stopRead (c : CircuitId) : (s.lowerFlowMeter c).stopRead = s.stopRead := rfl
@[simp] theorem State.lowerFlowMeter_ports (c : CircuitId) : (s.lowerFlowMeter c).ports = s.ports := rfl
@[simp] theorem State.lowerFlowMeter_plant (c : CircuitId) : (s.lowerFlowMeter c).plant = s.plant := rfl
@[simp] theorem State.lowerFlowMeter_settings (c : CircuitId) : (s.lowerFlowMeter c).settings = s.settings := rfl
@[simp] theorem State.lowerFlowMeter_bankHoming (c : CircuitId) : (s.lowerFlowMeter c).bankHoming = s.bankHoming := rfl
@[simp] theorem State.lowerFlowMeter_due (c : CircuitId) : (s.lowerFlowMeter c).due = s.due := rfl
@[simp] theorem State.lowerFlowMeter_free (c : CircuitId) : (s.lowerFlowMeter c).free = s.free := rfl
@[simp] theorem State.lowerFlowMeter_pending (c : CircuitId) : (s.lowerFlowMeter c).pending = s.pending := rfl

/-! ### lowerWasteMeter -/

@[simp] theorem State.lowerWasteMeter_meters : s.lowerWasteMeter.meters = { s.meters with waste := false } := rfl
@[simp] theorem State.lowerWasteMeter_filters : s.lowerWasteMeter.filters = s.filters := rfl
@[simp] theorem State.lowerWasteMeter_pathOpen : s.lowerWasteMeter.pathOpen = s.pathOpen := rfl
@[simp] theorem State.lowerWasteMeter_creditPointer : s.lowerWasteMeter.creditPointer = s.creditPointer := rfl
@[simp] theorem State.lowerWasteMeter_flow : s.lowerWasteMeter.flow = s.flow := rfl
@[simp] theorem State.lowerWasteMeter_queue : s.lowerWasteMeter.queue = s.queue := rfl
@[simp] theorem State.lowerWasteMeter_line : s.lowerWasteMeter.line = s.line := rfl
@[simp] theorem State.lowerWasteMeter_waste : s.lowerWasteMeter.waste = s.waste := rfl
@[simp] theorem State.lowerWasteMeter_channels : s.lowerWasteMeter.channels = s.channels := rfl
@[simp] theorem State.lowerWasteMeter_requests : s.lowerWasteMeter.requests = s.requests := rfl
@[simp] theorem State.lowerWasteMeter_travelQueue : s.lowerWasteMeter.travelQueue = s.travelQueue := rfl
@[simp] theorem State.lowerWasteMeter_slots : s.lowerWasteMeter.slots = s.slots := rfl
@[simp] theorem State.lowerWasteMeter_surge : s.lowerWasteMeter.surge = s.surge := rfl
@[simp] theorem State.lowerWasteMeter_doses : s.lowerWasteMeter.doses = s.doses := rfl
@[simp] theorem State.lowerWasteMeter_bulkLow : s.lowerWasteMeter.bulkLow = s.bulkLow := rfl
@[simp] theorem State.lowerWasteMeter_circuits : s.lowerWasteMeter.circuits = s.circuits := rfl
@[simp] theorem State.lowerWasteMeter_stopActive : s.lowerWasteMeter.stopActive = s.stopActive := rfl
@[simp] theorem State.lowerWasteMeter_stopRead : s.lowerWasteMeter.stopRead = s.stopRead := rfl
@[simp] theorem State.lowerWasteMeter_ports : s.lowerWasteMeter.ports = s.ports := rfl
@[simp] theorem State.lowerWasteMeter_plant : s.lowerWasteMeter.plant = s.plant := rfl
@[simp] theorem State.lowerWasteMeter_settings : s.lowerWasteMeter.settings = s.settings := rfl
@[simp] theorem State.lowerWasteMeter_bankHoming : s.lowerWasteMeter.bankHoming = s.bankHoming := rfl
@[simp] theorem State.lowerWasteMeter_due : s.lowerWasteMeter.due = s.due := rfl
@[simp] theorem State.lowerWasteMeter_free : s.lowerWasteMeter.free = s.free := rfl
@[simp] theorem State.lowerWasteMeter_pending : s.lowerWasteMeter.pending = s.pending := rfl

/-! ### pulseFlowMeter, pulseWasteMeter: the fall before the rise leaves no trace -/

@[simp] theorem State.pulseFlowMeter_eq (c : CircuitId) : s.pulseFlowMeter c = s.raiseFlowMeter c := by
  unfold State.pulseFlowMeter; split
  · cases c <;> rfl
  · rfl

@[simp] theorem State.pulseWasteMeter_eq : s.pulseWasteMeter = s.raiseWasteMeter := by
  unfold State.pulseWasteMeter; split <;> rfl

/-! ### idle -/

@[simp] theorem State.idle_filters : s.idle.filters = s.filters := by unfold State.idle; split <;> rfl
@[simp] theorem State.idle_pathOpen : s.idle.pathOpen = s.pathOpen := by unfold State.idle; split <;> rfl
@[simp] theorem State.idle_creditPointer : s.idle.creditPointer = s.creditPointer := by unfold State.idle; split <;> rfl
@[simp] theorem State.idle_flow : s.idle.flow = s.flow := by unfold State.idle; split <;> rfl
@[simp] theorem State.idle_queue : s.idle.queue = s.queue := by unfold State.idle; split <;> rfl
@[simp] theorem State.idle_line : s.idle.line = s.line := by unfold State.idle; split <;> rfl
@[simp] theorem State.idle_waste : s.idle.waste = s.waste := by unfold State.idle; split <;> rfl
@[simp] theorem State.idle_channels : s.idle.channels = s.channels := by unfold State.idle; split <;> rfl
@[simp] theorem State.idle_requests : s.idle.requests = s.requests := by unfold State.idle; split <;> rfl
@[simp] theorem State.idle_travelQueue : s.idle.travelQueue = s.travelQueue := by unfold State.idle; split <;> rfl
@[simp] theorem State.idle_slots : s.idle.slots = s.slots := by unfold State.idle; split <;> rfl
@[simp] theorem State.idle_surge : s.idle.surge = s.surge := by unfold State.idle; split <;> rfl
@[simp] theorem State.idle_doses : s.idle.doses = s.doses := by unfold State.idle; split <;> rfl
@[simp] theorem State.idle_bulkLow : s.idle.bulkLow = s.bulkLow := by unfold State.idle; split <;> rfl
@[simp] theorem State.idle_circuits : s.idle.circuits = s.circuits := by unfold State.idle; split <;> rfl
@[simp] theorem State.idle_stopActive : s.idle.stopActive = s.stopActive := by unfold State.idle; split <;> rfl
@[simp] theorem State.idle_stopRead : s.idle.stopRead = s.stopRead := by unfold State.idle; split <;> rfl
@[simp] theorem State.idle_ports : s.idle.ports = s.ports := by unfold State.idle; split <;> rfl
@[simp] theorem State.idle_plant : s.idle.plant = s.plant := by unfold State.idle; split <;> rfl
@[simp] theorem State.idle_settings : s.idle.settings = s.settings := by unfold State.idle; split <;> rfl
@[simp] theorem State.idle_bankHoming : s.idle.bankHoming = s.bankHoming := by unfold State.idle; split <;> rfl
@[simp] theorem State.idle_due : s.idle.due = s.due := by unfold State.idle; split <;> rfl
@[simp] theorem State.idle_pending : s.idle.pending = s.pending := by unfold State.idle; split <;> rfl

@[simp] theorem Meters.fall_get (m : Meters) (flow : CircuitId → Bool) (waste : Bool) (c : CircuitId) :
    (m.fall flow waste).circuits.get c = (m.circuits.get c && !flow c) := by
  cases c <;> rfl

@[simp] theorem Meters.fall_waste (m : Meters) (flow : CircuitId → Bool) (waste : Bool) :
    (m.fall flow waste).waste = (m.waste && !waste) := rfl

/-- Where every level is low nothing changes. -/
theorem State.idle_of_allLow (h : s.meters.allLow = true) : s.idle = s := if_pos h

/-- All that an idle step can do: meter levels that are high may go low, and then the count of free values moves on. -/
theorem State.idle_frame : s.idle = { s with meters := s.idle.meters, free := s.idle.free } := by
  unfold State.idle; split <;> rfl

/-- A level that is high after an idle step was high before it. -/
theorem State.idle_falls (c : CircuitId) (h : s.idle.meters.circuits.get c = true) : s.meters.circuits.get c = true := by
  unfold State.idle at h; split at h <;> simp_all

theorem State.idle_waste_falls (h : s.idle.meters.waste = true) : s.meters.waste = true := by
  unfold State.idle at h; split at h <;> simp_all

/-! ### updCircuit -/

@[simp] theorem State.updCircuit_filters (c : CircuitId) (g : CircuitRecord → CircuitRecord) :
    (s.updCircuit c g).filters = s.filters := rfl
@[simp] theorem State.updCircuit_pathOpen (c : CircuitId) (g : CircuitRecord → CircuitRecord) :
    (s.updCircuit c g).pathOpen = s.pathOpen := rfl
@[simp] theorem State.updCircuit_creditPointer (c : CircuitId) (g : CircuitRecord → CircuitRecord) :
    (s.updCircuit c g).creditPointer = s.creditPointer := rfl
@[simp] theorem State.updCircuit_flow (c : CircuitId) (g : CircuitRecord → CircuitRecord) :
    (s.updCircuit c g).flow = s.flow := rfl
@[simp] theorem State.updCircuit_queue (c : CircuitId) (g : CircuitRecord → CircuitRecord) :
    (s.updCircuit c g).queue = s.queue := rfl
@[simp] theorem State.updCircuit_line (c : CircuitId) (g : CircuitRecord → CircuitRecord) :
    (s.updCircuit c g).line = s.line := rfl
@[simp] theorem State.updCircuit_waste (c : CircuitId) (g : CircuitRecord → CircuitRecord) :
    (s.updCircuit c g).waste = s.waste := rfl
@[simp] theorem State.updCircuit_channels (c : CircuitId) (g : CircuitRecord → CircuitRecord) :
    (s.updCircuit c g).channels = s.channels := rfl
@[simp] theorem State.updCircuit_requests (c : CircuitId) (g : CircuitRecord → CircuitRecord) :
    (s.updCircuit c g).requests = s.requests := rfl
@[simp] theorem State.updCircuit_travelQueue (c : CircuitId) (g : CircuitRecord → CircuitRecord) :
    (s.updCircuit c g).travelQueue = s.travelQueue := rfl
@[simp] theorem State.updCircuit_slots (c : CircuitId) (g : CircuitRecord → CircuitRecord) :
    (s.updCircuit c g).slots = s.slots := rfl
@[simp] theorem State.updCircuit_surge (c : CircuitId) (g : CircuitRecord → CircuitRecord) :
    (s.updCircuit c g).surge = s.surge := rfl
@[simp] theorem State.updCircuit_doses (c : CircuitId) (g : CircuitRecord → CircuitRecord) :
    (s.updCircuit c g).doses = s.doses := rfl
@[simp] theorem State.updCircuit_bulkLow (c : CircuitId) (g : CircuitRecord → CircuitRecord) :
    (s.updCircuit c g).bulkLow = s.bulkLow := rfl
@[simp] theorem State.updCircuit_meters (c : CircuitId) (g : CircuitRecord → CircuitRecord) :
    (s.updCircuit c g).meters = s.meters := rfl
@[simp] theorem State.updCircuit_circuits (c : CircuitId) (g : CircuitRecord → CircuitRecord) :
    (s.updCircuit c g).circuits = s.circuits.set c (g (s.circuits.get c)) := rfl
@[simp] theorem State.updCircuit_stopActive (c : CircuitId) (g : CircuitRecord → CircuitRecord) :
    (s.updCircuit c g).stopActive = s.stopActive := rfl
@[simp] theorem State.updCircuit_stopRead (c : CircuitId) (g : CircuitRecord → CircuitRecord) :
    (s.updCircuit c g).stopRead = s.stopRead := rfl
@[simp] theorem State.updCircuit_ports (c : CircuitId) (g : CircuitRecord → CircuitRecord) :
    (s.updCircuit c g).ports = s.ports := rfl
@[simp] theorem State.updCircuit_plant (c : CircuitId) (g : CircuitRecord → CircuitRecord) :
    (s.updCircuit c g).plant = s.plant := rfl
@[simp] theorem State.updCircuit_settings (c : CircuitId) (g : CircuitRecord → CircuitRecord) :
    (s.updCircuit c g).settings = s.settings := rfl
@[simp] theorem State.updCircuit_bankHoming (c : CircuitId) (g : CircuitRecord → CircuitRecord) :
    (s.updCircuit c g).bankHoming = s.bankHoming := rfl
@[simp] theorem State.updCircuit_due (c : CircuitId) (g : CircuitRecord → CircuitRecord) :
    (s.updCircuit c g).due = s.due := rfl
@[simp] theorem State.updCircuit_free (c : CircuitId) (g : CircuitRecord → CircuitRecord) :
    (s.updCircuit c g).free = s.free := rfl
@[simp] theorem State.updCircuit_pending (c : CircuitId) (g : CircuitRecord → CircuitRecord) :
    (s.updCircuit c g).pending = s.pending := rfl

/-! ### updFlow -/

@[simp] theorem State.updFlow_filters (c : CircuitId) (g : FlowRecord → FlowRecord) :
    (s.updFlow c g).filters = s.filters := rfl
@[simp] theorem State.updFlow_pathOpen (c : CircuitId) (g : FlowRecord → FlowRecord) :
    (s.updFlow c g).pathOpen = s.pathOpen := rfl
@[simp] theorem State.updFlow_creditPointer (c : CircuitId) (g : FlowRecord → FlowRecord) :
    (s.updFlow c g).creditPointer = s.creditPointer := rfl
@[simp] theorem State.updFlow_flow (c : CircuitId) (g : FlowRecord → FlowRecord) :
    (s.updFlow c g).flow = s.flow.set c (g (s.flow.get c)) := rfl
@[simp] theorem State.updFlow_queue (c : CircuitId) (g : FlowRecord → FlowRecord) :
    (s.updFlow c g).queue = s.queue := rfl
@[simp] theorem State.updFlow_line (c : CircuitId) (g : FlowRecord → FlowRecord) :
    (s.updFlow c g).line = s.line := rfl
@[simp] theorem State.updFlow_waste (c : CircuitId) (g : FlowRecord → FlowRecord) :
    (s.updFlow c g).waste = s.waste := rfl
@[simp] theorem State.updFlow_channels (c : CircuitId) (g : FlowRecord → FlowRecord) :
    (s.updFlow c g).channels = s.channels := rfl
@[simp] theorem State.updFlow_requests (c : CircuitId) (g : FlowRecord → FlowRecord) :
    (s.updFlow c g).requests = s.requests := rfl
@[simp] theorem State.updFlow_travelQueue (c : CircuitId) (g : FlowRecord → FlowRecord) :
    (s.updFlow c g).travelQueue = s.travelQueue := rfl
@[simp] theorem State.updFlow_slots (c : CircuitId) (g : FlowRecord → FlowRecord) :
    (s.updFlow c g).slots = s.slots := rfl
@[simp] theorem State.updFlow_surge (c : CircuitId) (g : FlowRecord → FlowRecord) :
    (s.updFlow c g).surge = s.surge := rfl
@[simp] theorem State.updFlow_doses (c : CircuitId) (g : FlowRecord → FlowRecord) :
    (s.updFlow c g).doses = s.doses := rfl
@[simp] theorem State.updFlow_bulkLow (c : CircuitId) (g : FlowRecord → FlowRecord) :
    (s.updFlow c g).bulkLow = s.bulkLow := rfl
@[simp] theorem State.updFlow_meters (c : CircuitId) (g : FlowRecord → FlowRecord) :
    (s.updFlow c g).meters = s.meters := rfl
@[simp] theorem State.updFlow_circuits (c : CircuitId) (g : FlowRecord → FlowRecord) :
    (s.updFlow c g).circuits = s.circuits := rfl
@[simp] theorem State.updFlow_stopActive (c : CircuitId) (g : FlowRecord → FlowRecord) :
    (s.updFlow c g).stopActive = s.stopActive := rfl
@[simp] theorem State.updFlow_stopRead (c : CircuitId) (g : FlowRecord → FlowRecord) :
    (s.updFlow c g).stopRead = s.stopRead := rfl
@[simp] theorem State.updFlow_ports (c : CircuitId) (g : FlowRecord → FlowRecord) :
    (s.updFlow c g).ports = s.ports := rfl
@[simp] theorem State.updFlow_plant (c : CircuitId) (g : FlowRecord → FlowRecord) :
    (s.updFlow c g).plant = s.plant := rfl
@[simp] theorem State.updFlow_settings (c : CircuitId) (g : FlowRecord → FlowRecord) :
    (s.updFlow c g).settings = s.settings := rfl
@[simp] theorem State.updFlow_bankHoming (c : CircuitId) (g : FlowRecord → FlowRecord) :
    (s.updFlow c g).bankHoming = s.bankHoming := rfl
@[simp] theorem State.updFlow_due (c : CircuitId) (g : FlowRecord → FlowRecord) :
    (s.updFlow c g).due = s.due := rfl
@[simp] theorem State.updFlow_free (c : CircuitId) (g : FlowRecord → FlowRecord) :
    (s.updFlow c g).free = s.free := rfl
@[simp] theorem State.updFlow_pending (c : CircuitId) (g : FlowRecord → FlowRecord) :
    (s.updFlow c g).pending = s.pending := rfl

/-! ### updDose -/

@[simp] theorem State.updDose_filters (c : CircuitId) (g : DoseChannel → DoseChannel) :
    (s.updDose c g).filters = s.filters := rfl
@[simp] theorem State.updDose_pathOpen (c : CircuitId) (g : DoseChannel → DoseChannel) :
    (s.updDose c g).pathOpen = s.pathOpen := rfl
@[simp] theorem State.updDose_creditPointer (c : CircuitId) (g : DoseChannel → DoseChannel) :
    (s.updDose c g).creditPointer = s.creditPointer := rfl
@[simp] theorem State.updDose_flow (c : CircuitId) (g : DoseChannel → DoseChannel) :
    (s.updDose c g).flow = s.flow := rfl
@[simp] theorem State.updDose_queue (c : CircuitId) (g : DoseChannel → DoseChannel) :
    (s.updDose c g).queue = s.queue := rfl
@[simp] theorem State.updDose_line (c : CircuitId) (g : DoseChannel → DoseChannel) :
    (s.updDose c g).line = s.line := rfl
@[simp] theorem State.updDose_waste (c : CircuitId) (g : DoseChannel → DoseChannel) :
    (s.updDose c g).waste = s.waste := rfl
@[simp] theorem State.updDose_channels (c : CircuitId) (g : DoseChannel → DoseChannel) :
    (s.updDose c g).channels = s.channels := rfl
@[simp] theorem State.updDose_requests (c : CircuitId) (g : DoseChannel → DoseChannel) :
    (s.updDose c g).requests = s.requests := rfl
@[simp] theorem State.updDose_travelQueue (c : CircuitId) (g : DoseChannel → DoseChannel) :
    (s.updDose c g).travelQueue = s.travelQueue := rfl
@[simp] theorem State.updDose_slots (c : CircuitId) (g : DoseChannel → DoseChannel) :
    (s.updDose c g).slots = s.slots := rfl
@[simp] theorem State.updDose_surge (c : CircuitId) (g : DoseChannel → DoseChannel) :
    (s.updDose c g).surge = s.surge := rfl
@[simp] theorem State.updDose_doses (c : CircuitId) (g : DoseChannel → DoseChannel) :
    (s.updDose c g).doses = s.doses.set c (g (s.doses.get c)) := rfl
@[simp] theorem State.updDose_bulkLow (c : CircuitId) (g : DoseChannel → DoseChannel) :
    (s.updDose c g).bulkLow = s.bulkLow := rfl
@[simp] theorem State.updDose_meters (c : CircuitId) (g : DoseChannel → DoseChannel) :
    (s.updDose c g).meters = s.meters := rfl
@[simp] theorem State.updDose_circuits (c : CircuitId) (g : DoseChannel → DoseChannel) :
    (s.updDose c g).circuits = s.circuits := rfl
@[simp] theorem State.updDose_stopActive (c : CircuitId) (g : DoseChannel → DoseChannel) :
    (s.updDose c g).stopActive = s.stopActive := rfl
@[simp] theorem State.updDose_stopRead (c : CircuitId) (g : DoseChannel → DoseChannel) :
    (s.updDose c g).stopRead = s.stopRead := rfl
@[simp] theorem State.updDose_ports (c : CircuitId) (g : DoseChannel → DoseChannel) :
    (s.updDose c g).ports = s.ports := rfl
@[simp] theorem State.updDose_plant (c : CircuitId) (g : DoseChannel → DoseChannel) :
    (s.updDose c g).plant = s.plant := rfl
@[simp] theorem State.updDose_settings (c : CircuitId) (g : DoseChannel → DoseChannel) :
    (s.updDose c g).settings = s.settings := rfl
@[simp] theorem State.updDose_bankHoming (c : CircuitId) (g : DoseChannel → DoseChannel) :
    (s.updDose c g).bankHoming = s.bankHoming := rfl
@[simp] theorem State.updDose_due (c : CircuitId) (g : DoseChannel → DoseChannel) :
    (s.updDose c g).due = s.due := rfl
@[simp] theorem State.updDose_free (c : CircuitId) (g : DoseChannel → DoseChannel) :
    (s.updDose c g).free = s.free := rfl
@[simp] theorem State.updDose_pending (c : CircuitId) (g : DoseChannel → DoseChannel) :
    (s.updDose c g).pending = s.pending := rfl

/-! ### updPort -/

@[simp] theorem State.updPort_filters (p : PortId) (g : Port → Port) : (s.updPort p g).filters = s.filters := rfl
@[simp] theorem State.updPort_pathOpen (p : PortId) (g : Port → Port) :
    (s.updPort p g).pathOpen = s.pathOpen := rfl
@[simp] theorem State.updPort_creditPointer (p : PortId) (g : Port → Port) :
    (s.updPort p g).creditPointer = s.creditPointer := rfl
@[simp] theorem State.updPort_flow (p : PortId) (g : Port → Port) : (s.updPort p g).flow = s.flow := rfl
@[simp] theorem State.updPort_queue (p : PortId) (g : Port → Port) : (s.updPort p g).queue = s.queue := rfl
@[simp] theorem State.updPort_line (p : PortId) (g : Port → Port) : (s.updPort p g).line = s.line := rfl
@[simp] theorem State.updPort_waste (p : PortId) (g : Port → Port) : (s.updPort p g).waste = s.waste := rfl
@[simp] theorem State.updPort_channels (p : PortId) (g : Port → Port) :
    (s.updPort p g).channels = s.channels := rfl
@[simp] theorem State.updPort_requests (p : PortId) (g : Port → Port) :
    (s.updPort p g).requests = s.requests := rfl
@[simp] theorem State.updPort_travelQueue (p : PortId) (g : Port → Port) :
    (s.updPort p g).travelQueue = s.travelQueue := rfl
@[simp] theorem State.updPort_slots (p : PortId) (g : Port → Port) : (s.updPort p g).slots = s.slots := rfl
@[simp] theorem State.updPort_surge (p : PortId) (g : Port → Port) : (s.updPort p g).surge = s.surge := rfl
@[simp] theorem State.updPort_doses (p : PortId) (g : Port → Port) : (s.updPort p g).doses = s.doses := rfl
@[simp] theorem State.updPort_bulkLow (p : PortId) (g : Port → Port) : (s.updPort p g).bulkLow = s.bulkLow := rfl
@[simp] theorem State.updPort_meters (p : PortId) (g : Port → Port) : (s.updPort p g).meters = s.meters := rfl
@[simp] theorem State.updPort_circuits (p : PortId) (g : Port → Port) :
    (s.updPort p g).circuits = s.circuits := rfl
@[simp] theorem State.updPort_stopActive (p : PortId) (g : Port → Port) :
    (s.updPort p g).stopActive = s.stopActive := rfl
@[simp] theorem State.updPort_stopRead (p : PortId) (g : Port → Port) :
    (s.updPort p g).stopRead = s.stopRead := rfl
@[simp] theorem State.updPort_ports (p : PortId) (g : Port → Port) :
    (s.updPort p g).ports = s.ports.set p (g (s.ports.get p)) := rfl
@[simp] theorem State.updPort_plant (p : PortId) (g : Port → Port) : (s.updPort p g).plant = s.plant := rfl
@[simp] theorem State.updPort_settings (p : PortId) (g : Port → Port) :
    (s.updPort p g).settings = s.settings := rfl
@[simp] theorem State.updPort_bankHoming (p : PortId) (g : Port → Port) :
    (s.updPort p g).bankHoming = s.bankHoming := rfl
@[simp] theorem State.updPort_due (p : PortId) (g : Port → Port) : (s.updPort p g).due = s.due := rfl
@[simp] theorem State.updPort_free (p : PortId) (g : Port → Port) : (s.updPort p g).free = s.free := rfl
@[simp] theorem State.updPort_pending (p : PortId) (g : Port → Port) : (s.updPort p g).pending = s.pending := rfl

/-! ### updChannel -/

@[simp] theorem State.updChannel_filters (f : FilterId) (g : Channel → Channel) :
    (s.updChannel f g).filters = s.filters := rfl
@[simp] theorem State.updChannel_pathOpen (f : FilterId) (g : Channel → Channel) :
    (s.updChannel f g).pathOpen = s.pathOpen := rfl
@[simp] theorem State.updChannel_creditPointer (f : FilterId) (g : Channel → Channel) :
    (s.updChannel f g).creditPointer = s.creditPointer := rfl
@[simp] theorem State.updChannel_flow (f : FilterId) (g : Channel → Channel) :
    (s.updChannel f g).flow = s.flow := rfl
@[simp] theorem State.updChannel_queue (f : FilterId) (g : Channel → Channel) :
    (s.updChannel f g).queue = s.queue := rfl
@[simp] theorem State.updChannel_line (f : FilterId) (g : Channel → Channel) :
    (s.updChannel f g).line = s.line := rfl
@[simp] theorem State.updChannel_waste (f : FilterId) (g : Channel → Channel) :
    (s.updChannel f g).waste = s.waste := rfl
@[simp] theorem State.updChannel_channels (f : FilterId) (g : Channel → Channel) :
    (s.updChannel f g).channels = s.channels.set f (g (s.channels.get f)) := rfl
@[simp] theorem State.updChannel_requests (f : FilterId) (g : Channel → Channel) :
    (s.updChannel f g).requests = s.requests := rfl
@[simp] theorem State.updChannel_travelQueue (f : FilterId) (g : Channel → Channel) :
    (s.updChannel f g).travelQueue = s.travelQueue := rfl
@[simp] theorem State.updChannel_slots (f : FilterId) (g : Channel → Channel) :
    (s.updChannel f g).slots = s.slots := rfl
@[simp] theorem State.updChannel_surge (f : FilterId) (g : Channel → Channel) :
    (s.updChannel f g).surge = s.surge := rfl
@[simp] theorem State.updChannel_doses (f : FilterId) (g : Channel → Channel) :
    (s.updChannel f g).doses = s.doses := rfl
@[simp] theorem State.updChannel_bulkLow (f : FilterId) (g : Channel → Channel) :
    (s.updChannel f g).bulkLow = s.bulkLow := rfl
@[simp] theorem State.updChannel_meters (f : FilterId) (g : Channel → Channel) :
    (s.updChannel f g).meters = s.meters := rfl
@[simp] theorem State.updChannel_circuits (f : FilterId) (g : Channel → Channel) :
    (s.updChannel f g).circuits = s.circuits := rfl
@[simp] theorem State.updChannel_stopActive (f : FilterId) (g : Channel → Channel) :
    (s.updChannel f g).stopActive = s.stopActive := rfl
@[simp] theorem State.updChannel_stopRead (f : FilterId) (g : Channel → Channel) :
    (s.updChannel f g).stopRead = s.stopRead := rfl
@[simp] theorem State.updChannel_ports (f : FilterId) (g : Channel → Channel) :
    (s.updChannel f g).ports = s.ports := rfl
@[simp] theorem State.updChannel_plant (f : FilterId) (g : Channel → Channel) :
    (s.updChannel f g).plant = s.plant := rfl
@[simp] theorem State.updChannel_settings (f : FilterId) (g : Channel → Channel) :
    (s.updChannel f g).settings = s.settings := rfl
@[simp] theorem State.updChannel_bankHoming (f : FilterId) (g : Channel → Channel) :
    (s.updChannel f g).bankHoming = s.bankHoming := rfl
@[simp] theorem State.updChannel_due (f : FilterId) (g : Channel → Channel) : (s.updChannel f g).due = s.due := rfl
@[simp] theorem State.updChannel_free (f : FilterId) (g : Channel → Channel) :
    (s.updChannel f g).free = s.free := rfl
@[simp] theorem State.updChannel_pending (f : FilterId) (g : Channel → Channel) :
    (s.updChannel f g).pending = s.pending := rfl

/-! ### setRequest -/

@[simp] theorem State.setRequest_filters (f : FilterId) (r : Option TravelRequest) :
    (s.setRequest f r).filters = s.filters := rfl
@[simp] theorem State.setRequest_pathOpen (f : FilterId) (r : Option TravelRequest) :
    (s.setRequest f r).pathOpen = s.pathOpen := rfl
@[simp] theorem State.setRequest_creditPointer (f : FilterId) (r : Option TravelRequest) :
    (s.setRequest f r).creditPointer = s.creditPointer := rfl
@[simp] theorem State.setRequest_flow (f : FilterId) (r : Option TravelRequest) :
    (s.setRequest f r).flow = s.flow := rfl
@[simp] theorem State.setRequest_queue (f : FilterId) (r : Option TravelRequest) :
    (s.setRequest f r).queue = s.queue := rfl
@[simp] theorem State.setRequest_line (f : FilterId) (r : Option TravelRequest) :
    (s.setRequest f r).line = s.line := rfl
@[simp] theorem State.setRequest_waste (f : FilterId) (r : Option TravelRequest) :
    (s.setRequest f r).waste = s.waste := rfl
@[simp] theorem State.setRequest_channels (f : FilterId) (r : Option TravelRequest) :
    (s.setRequest f r).channels = s.channels := rfl
@[simp] theorem State.setRequest_requests (f : FilterId) (r : Option TravelRequest) :
    (s.setRequest f r).requests = s.requests.set f r := rfl
@[simp] theorem State.setRequest_travelQueue (f : FilterId) (r : Option TravelRequest) :
    (s.setRequest f r).travelQueue = s.travelQueue := rfl
@[simp] theorem State.setRequest_slots (f : FilterId) (r : Option TravelRequest) :
    (s.setRequest f r).slots = s.slots := rfl
@[simp] theorem State.setRequest_surge (f : FilterId) (r : Option TravelRequest) :
    (s.setRequest f r).surge = s.surge := rfl
@[simp] theorem State.setRequest_doses (f : FilterId) (r : Option TravelRequest) :
    (s.setRequest f r).doses = s.doses := rfl
@[simp] theorem State.setRequest_bulkLow (f : FilterId) (r : Option TravelRequest) :
    (s.setRequest f r).bulkLow = s.bulkLow := rfl
@[simp] theorem State.setRequest_meters (f : FilterId) (r : Option TravelRequest) :
    (s.setRequest f r).meters = s.meters := rfl
@[simp] theorem State.setRequest_circuits (f : FilterId) (r : Option TravelRequest) :
    (s.setRequest f r).circuits = s.circuits := rfl
@[simp] theorem State.setRequest_stopActive (f : FilterId) (r : Option TravelRequest) :
    (s.setRequest f r).stopActive = s.stopActive := rfl
@[simp] theorem State.setRequest_stopRead (f : FilterId) (r : Option TravelRequest) :
    (s.setRequest f r).stopRead = s.stopRead := rfl
@[simp] theorem State.setRequest_ports (f : FilterId) (r : Option TravelRequest) :
    (s.setRequest f r).ports = s.ports := rfl
@[simp] theorem State.setRequest_plant (f : FilterId) (r : Option TravelRequest) :
    (s.setRequest f r).plant = s.plant := rfl
@[simp] theorem State.setRequest_settings (f : FilterId) (r : Option TravelRequest) :
    (s.setRequest f r).settings = s.settings := rfl
@[simp] theorem State.setRequest_bankHoming (f : FilterId) (r : Option TravelRequest) :
    (s.setRequest f r).bankHoming = s.bankHoming := rfl
@[simp] theorem State.setRequest_due (f : FilterId) (r : Option TravelRequest) :
    (s.setRequest f r).due = s.due := rfl
@[simp] theorem State.setRequest_free (f : FilterId) (r : Option TravelRequest) :
    (s.setRequest f r).free = s.free := rfl
@[simp] theorem State.setRequest_pending (f : FilterId) (r : Option TravelRequest) :
    (s.setRequest f r).pending = s.pending := rfl

/-! ### setClean -/

@[simp] theorem State.setClean_filters (r : Option LineRecord) : (s.setClean r).filters = s.filters := rfl
@[simp] theorem State.setClean_pathOpen (r : Option LineRecord) : (s.setClean r).pathOpen = s.pathOpen := rfl
@[simp] theorem State.setClean_creditPointer (r : Option LineRecord) :
    (s.setClean r).creditPointer = s.creditPointer := rfl
@[simp] theorem State.setClean_flow (r : Option LineRecord) : (s.setClean r).flow = s.flow := rfl
@[simp] theorem State.setClean_queue (r : Option LineRecord) : (s.setClean r).queue = s.queue := rfl
@[simp] theorem State.setClean_line (r : Option LineRecord) :
    (s.setClean r).line = { s.line with clean := r } := rfl
@[simp] theorem State.setClean_waste (r : Option LineRecord) : (s.setClean r).waste = s.waste := rfl
@[simp] theorem State.setClean_channels (r : Option LineRecord) : (s.setClean r).channels = s.channels := rfl
@[simp] theorem State.setClean_requests (r : Option LineRecord) : (s.setClean r).requests = s.requests := rfl
@[simp] theorem State.setClean_travelQueue (r : Option LineRecord) :
    (s.setClean r).travelQueue = s.travelQueue := rfl
@[simp] theorem State.setClean_slots (r : Option LineRecord) : (s.setClean r).slots = s.slots := rfl
@[simp] theorem State.setClean_surge (r : Option LineRecord) : (s.setClean r).surge = s.surge := rfl
@[simp] theorem State.setClean_doses (r : Option LineRecord) : (s.setClean r).doses = s.doses := rfl
@[simp] theorem State.setClean_bulkLow (r : Option LineRecord) : (s.setClean r).bulkLow = s.bulkLow := rfl
@[simp] theorem State.setClean_meters (r : Option LineRecord) : (s.setClean r).meters = s.meters := rfl
@[simp] theorem State.setClean_circuits (r : Option LineRecord) : (s.setClean r).circuits = s.circuits := rfl
@[simp] theorem State.setClean_stopActive (r : Option LineRecord) : (s.setClean r).stopActive = s.stopActive := rfl
@[simp] theorem State.setClean_stopRead (r : Option LineRecord) : (s.setClean r).stopRead = s.stopRead := rfl
@[simp] theorem State.setClean_ports (r : Option LineRecord) : (s.setClean r).ports = s.ports := rfl
@[simp] theorem State.setClean_plant (r : Option LineRecord) : (s.setClean r).plant = s.plant := rfl
@[simp] theorem State.setClean_settings (r : Option LineRecord) : (s.setClean r).settings = s.settings := rfl
@[simp] theorem State.setClean_bankHoming (r : Option LineRecord) : (s.setClean r).bankHoming = s.bankHoming := rfl
@[simp] theorem State.setClean_due (r : Option LineRecord) : (s.setClean r).due = s.due := rfl
@[simp] theorem State.setClean_free (r : Option LineRecord) : (s.setClean r).free = s.free := rfl
@[simp] theorem State.setClean_pending (r : Option LineRecord) : (s.setClean r).pending = s.pending := rfl

/-! ### setPump -/

@[simp] theorem State.setPump_filters (on : Bool) : (s.setPump on).filters = s.filters := rfl
@[simp] theorem State.setPump_pathOpen (on : Bool) : (s.setPump on).pathOpen = s.pathOpen := rfl
@[simp] theorem State.setPump_creditPointer (on : Bool) : (s.setPump on).creditPointer = s.creditPointer := rfl
@[simp] theorem State.setPump_flow (on : Bool) : (s.setPump on).flow = s.flow := rfl
@[simp] theorem State.setPump_queue (on : Bool) : (s.setPump on).queue = s.queue := rfl
@[simp] theorem State.setPump_line (on : Bool) : (s.setPump on).line = { s.line with pump := on } := rfl
@[simp] theorem State.setPump_waste (on : Bool) : (s.setPump on).waste = s.waste := rfl
@[simp] theorem State.setPump_channels (on : Bool) : (s.setPump on).channels = s.channels := rfl
@[simp] theorem State.setPump_requests (on : Bool) : (s.setPump on).requests = s.requests := rfl
@[simp] theorem State.setPump_travelQueue (on : Bool) : (s.setPump on).travelQueue = s.travelQueue := rfl
@[simp] theorem State.setPump_slots (on : Bool) : (s.setPump on).slots = s.slots := rfl
@[simp] theorem State.setPump_surge (on : Bool) : (s.setPump on).surge = s.surge := rfl
@[simp] theorem State.setPump_doses (on : Bool) : (s.setPump on).doses = s.doses := rfl
@[simp] theorem State.setPump_bulkLow (on : Bool) : (s.setPump on).bulkLow = s.bulkLow := rfl
@[simp] theorem State.setPump_meters (on : Bool) : (s.setPump on).meters = s.meters := rfl
@[simp] theorem State.setPump_circuits (on : Bool) : (s.setPump on).circuits = s.circuits := rfl
@[simp] theorem State.setPump_stopActive (on : Bool) : (s.setPump on).stopActive = s.stopActive := rfl
@[simp] theorem State.setPump_stopRead (on : Bool) : (s.setPump on).stopRead = s.stopRead := rfl
@[simp] theorem State.setPump_ports (on : Bool) : (s.setPump on).ports = s.ports := rfl
@[simp] theorem State.setPump_plant (on : Bool) : (s.setPump on).plant = s.plant := rfl
@[simp] theorem State.setPump_settings (on : Bool) : (s.setPump on).settings = s.settings := rfl
@[simp] theorem State.setPump_bankHoming (on : Bool) : (s.setPump on).bankHoming = s.bankHoming := rfl
@[simp] theorem State.setPump_due (on : Bool) : (s.setPump on).due = s.due := rfl
@[simp] theorem State.setPump_free (on : Bool) : (s.setPump on).free = s.free := rfl
@[simp] theorem State.setPump_pending (on : Bool) : (s.setPump on).pending = s.pending := rfl

/-! ### setQueue -/

@[simp] theorem State.setQueue_filters (q : List QueueEntry) : (s.setQueue q).filters = s.filters := rfl
@[simp] theorem State.setQueue_pathOpen (q : List QueueEntry) : (s.setQueue q).pathOpen = s.pathOpen := rfl
@[simp] theorem State.setQueue_creditPointer (q : List QueueEntry) :
    (s.setQueue q).creditPointer = s.creditPointer := rfl
@[simp] theorem State.setQueue_flow (q : List QueueEntry) : (s.setQueue q).flow = s.flow := rfl
@[simp] theorem State.setQueue_queue (q : List QueueEntry) : (s.setQueue q).queue = q := rfl
@[simp] theorem State.setQueue_line (q : List QueueEntry) : (s.setQueue q).line = s.line := rfl
@[simp] theorem State.setQueue_waste (q : List QueueEntry) : (s.setQueue q).waste = s.waste := rfl
@[simp] theorem State.setQueue_channels (q : List QueueEntry) : (s.setQueue q).channels = s.channels := rfl
@[simp] theorem State.setQueue_requests (q : List QueueEntry) : (s.setQueue q).requests = s.requests := rfl
@[simp] theorem State.setQueue_travelQueue (q : List QueueEntry) :
    (s.setQueue q).travelQueue = s.travelQueue := rfl
@[simp] theorem State.setQueue_slots (q : List QueueEntry) : (s.setQueue q).slots = s.slots := rfl
@[simp] theorem State.setQueue_surge (q : List QueueEntry) : (s.setQueue q).surge = s.surge := rfl
@[simp] theorem State.setQueue_doses (q : List QueueEntry) : (s.setQueue q).doses = s.doses := rfl
@[simp] theorem State.setQueue_bulkLow (q : List QueueEntry) : (s.setQueue q).bulkLow = s.bulkLow := rfl
@[simp] theorem State.setQueue_meters (q : List QueueEntry) : (s.setQueue q).meters = s.meters := rfl
@[simp] theorem State.setQueue_circuits (q : List QueueEntry) : (s.setQueue q).circuits = s.circuits := rfl
@[simp] theorem State.setQueue_stopActive (q : List QueueEntry) : (s.setQueue q).stopActive = s.stopActive := rfl
@[simp] theorem State.setQueue_stopRead (q : List QueueEntry) : (s.setQueue q).stopRead = s.stopRead := rfl
@[simp] theorem State.setQueue_ports (q : List QueueEntry) : (s.setQueue q).ports = s.ports := rfl
@[simp] theorem State.setQueue_plant (q : List QueueEntry) : (s.setQueue q).plant = s.plant := rfl
@[simp] theorem State.setQueue_settings (q : List QueueEntry) : (s.setQueue q).settings = s.settings := rfl
@[simp] theorem State.setQueue_bankHoming (q : List QueueEntry) : (s.setQueue q).bankHoming = s.bankHoming := rfl
@[simp] theorem State.setQueue_due (q : List QueueEntry) : (s.setQueue q).due = s.due := rfl
@[simp] theorem State.setQueue_free (q : List QueueEntry) : (s.setQueue q).free = s.free := rfl
@[simp] theorem State.setQueue_pending (q : List QueueEntry) : (s.setQueue q).pending = s.pending := rfl

/-! ### needPass -/

@[simp] theorem State.needPass_filters : s.needPass.filters = s.filters := rfl
@[simp] theorem State.needPass_pathOpen : s.needPass.pathOpen = s.pathOpen := rfl
@[simp] theorem State.needPass_creditPointer : s.needPass.creditPointer = s.creditPointer := rfl
@[simp] theorem State.needPass_flow : s.needPass.flow = s.flow := rfl
@[simp] theorem State.needPass_queue : s.needPass.queue = s.queue := rfl
@[simp] theorem State.needPass_line : s.needPass.line = s.line := rfl
@[simp] theorem State.needPass_waste : s.needPass.waste = s.waste := rfl
@[simp] theorem State.needPass_channels : s.needPass.channels = s.channels := rfl
@[simp] theorem State.needPass_requests : s.needPass.requests = s.requests := rfl
@[simp] theorem State.needPass_travelQueue : s.needPass.travelQueue = s.travelQueue := rfl
@[simp] theorem State.needPass_slots : s.needPass.slots = s.slots := rfl
@[simp] theorem State.needPass_surge : s.needPass.surge = s.surge := rfl
@[simp] theorem State.needPass_doses : s.needPass.doses = s.doses := rfl
@[simp] theorem State.needPass_bulkLow : s.needPass.bulkLow = s.bulkLow := rfl
@[simp] theorem State.needPass_meters : s.needPass.meters = s.meters := rfl
@[simp] theorem State.needPass_circuits : s.needPass.circuits = s.circuits := rfl
@[simp] theorem State.needPass_stopActive : s.needPass.stopActive = s.stopActive := rfl
@[simp] theorem State.needPass_stopRead : s.needPass.stopRead = s.stopRead := rfl
@[simp] theorem State.needPass_ports : s.needPass.ports = s.ports := rfl
@[simp] theorem State.needPass_plant : s.needPass.plant = s.plant := rfl
@[simp] theorem State.needPass_settings : s.needPass.settings = s.settings := rfl
@[simp] theorem State.needPass_bankHoming : s.needPass.bankHoming = s.bankHoming := rfl
@[simp] theorem State.needPass_due : s.needPass.due = { s.due with pass := true } := rfl
@[simp] theorem State.needPass_free : s.needPass.free = s.free := rfl
@[simp] theorem State.needPass_pending : s.needPass.pending = s.pending := rfl

/-! ### needEval -/

@[simp] theorem State.needEval_filters : s.needEval.filters = s.filters := rfl
@[simp] theorem State.needEval_pathOpen : s.needEval.pathOpen = s.pathOpen := rfl
@[simp] theorem State.needEval_creditPointer : s.needEval.creditPointer = s.creditPointer := rfl
@[simp] theorem State.needEval_flow : s.needEval.flow = s.flow := rfl
@[simp] theorem State.needEval_queue : s.needEval.queue = s.queue := rfl
@[simp] theorem State.needEval_line : s.needEval.line = s.line := rfl
@[simp] theorem State.needEval_waste : s.needEval.waste = s.waste := rfl
@[simp] theorem State.needEval_channels : s.needEval.channels = s.channels := rfl
@[simp] theorem State.needEval_requests : s.needEval.requests = s.requests := rfl
@[simp] theorem State.needEval_travelQueue : s.needEval.travelQueue = s.travelQueue := rfl
@[simp] theorem State.needEval_slots : s.needEval.slots = s.slots := rfl
@[simp] theorem State.needEval_surge : s.needEval.surge = s.surge := rfl
@[simp] theorem State.needEval_doses : s.needEval.doses = s.doses := rfl
@[simp] theorem State.needEval_bulkLow : s.needEval.bulkLow = s.bulkLow := rfl
@[simp] theorem State.needEval_meters : s.needEval.meters = s.meters := rfl
@[simp] theorem State.needEval_circuits : s.needEval.circuits = s.circuits := rfl
@[simp] theorem State.needEval_stopActive : s.needEval.stopActive = s.stopActive := rfl
@[simp] theorem State.needEval_stopRead : s.needEval.stopRead = s.stopRead := rfl
@[simp] theorem State.needEval_ports : s.needEval.ports = s.ports := rfl
@[simp] theorem State.needEval_plant : s.needEval.plant = s.plant := rfl
@[simp] theorem State.needEval_settings : s.needEval.settings = s.settings := rfl
@[simp] theorem State.needEval_bankHoming : s.needEval.bankHoming = s.bankHoming := rfl
@[simp] theorem State.needEval_due : s.needEval.due = { s.due with eval := true } := rfl
@[simp] theorem State.needEval_free : s.needEval.free = s.free := rfl
@[simp] theorem State.needEval_pending : s.needEval.pending = s.pending := rfl

/-! ### needGrant -/

@[simp] theorem State.needGrant_filters : s.needGrant.filters = s.filters := rfl
@[simp] theorem State.needGrant_pathOpen : s.needGrant.pathOpen = s.pathOpen := rfl
@[simp] theorem State.needGrant_creditPointer : s.needGrant.creditPointer = s.creditPointer := rfl
@[simp] theorem State.needGrant_flow : s.needGrant.flow = s.flow := rfl
@[simp] theorem State.needGrant_queue : s.needGrant.queue = s.queue := rfl
@[simp] theorem State.needGrant_line : s.needGrant.line = s.line := rfl
@[simp] theorem State.needGrant_waste : s.needGrant.waste = s.waste := rfl
@[simp] theorem State.needGrant_channels : s.needGrant.channels = s.channels := rfl
@[simp] theorem State.needGrant_requests : s.needGrant.requests = s.requests := rfl
@[simp] theorem State.needGrant_travelQueue : s.needGrant.travelQueue = s.travelQueue := rfl
@[simp] theorem State.needGrant_slots : s.needGrant.slots = s.slots := rfl
@[simp] theorem State.needGrant_surge : s.needGrant.surge = s.surge := rfl
@[simp] theorem State.needGrant_doses : s.needGrant.doses = s.doses := rfl
@[simp] theorem State.needGrant_bulkLow : s.needGrant.bulkLow = s.bulkLow := rfl
@[simp] theorem State.needGrant_meters : s.needGrant.meters = s.meters := rfl
@[simp] theorem State.needGrant_circuits : s.needGrant.circuits = s.circuits := rfl
@[simp] theorem State.needGrant_stopActive : s.needGrant.stopActive = s.stopActive := rfl
@[simp] theorem State.needGrant_stopRead : s.needGrant.stopRead = s.stopRead := rfl
@[simp] theorem State.needGrant_ports : s.needGrant.ports = s.ports := rfl
@[simp] theorem State.needGrant_plant : s.needGrant.plant = s.plant := rfl
@[simp] theorem State.needGrant_settings : s.needGrant.settings = s.settings := rfl
@[simp] theorem State.needGrant_bankHoming : s.needGrant.bankHoming = s.bankHoming := rfl
@[simp] theorem State.needGrant_due : s.needGrant.due = { s.due with grant := true } := rfl
@[simp] theorem State.needGrant_free : s.needGrant.free = s.free := rfl
@[simp] theorem State.needGrant_pending : s.needGrant.pending = s.pending := rfl

/-! ### filterChanged -/

@[simp] theorem State.filterChanged_filters : s.filterChanged.filters = s.filters := rfl
@[simp] theorem State.filterChanged_pathOpen : s.filterChanged.pathOpen = s.pathOpen := rfl
@[simp] theorem State.filterChanged_creditPointer : s.filterChanged.creditPointer = s.creditPointer := rfl
@[simp] theorem State.filterChanged_flow : s.filterChanged.flow = s.flow := rfl
@[simp] theorem State.filterChanged_queue : s.filterChanged.queue = s.queue := rfl
@[simp] theorem State.filterChanged_line : s.filterChanged.line = s.line := rfl
@[simp] theorem State.filterChanged_waste : s.filterChanged.waste = s.waste := rfl
@[simp] theorem State.filterChanged_channels : s.filterChanged.channels = s.channels := rfl
@[simp] theorem State.filterChanged_requests : s.filterChanged.requests = s.requests := rfl
@[simp] theorem State.filterChanged_travelQueue : s.filterChanged.travelQueue = s.travelQueue := rfl
@[simp] theorem State.filterChanged_slots : s.filterChanged.slots = s.slots := rfl
@[simp] theorem State.filterChanged_surge : s.filterChanged.surge = s.surge := rfl
@[simp] theorem State.filterChanged_doses : s.filterChanged.doses = s.doses := rfl
@[simp] theorem State.filterChanged_bulkLow : s.filterChanged.bulkLow = s.bulkLow := rfl
@[simp] theorem State.filterChanged_meters : s.filterChanged.meters = s.meters := rfl
@[simp] theorem State.filterChanged_circuits : s.filterChanged.circuits = s.circuits := rfl
@[simp] theorem State.filterChanged_stopActive : s.filterChanged.stopActive = s.stopActive := rfl
@[simp] theorem State.filterChanged_stopRead : s.filterChanged.stopRead = s.stopRead := rfl
@[simp] theorem State.filterChanged_ports : s.filterChanged.ports = s.ports := rfl
@[simp] theorem State.filterChanged_plant : s.filterChanged.plant = s.plant := rfl
@[simp] theorem State.filterChanged_settings : s.filterChanged.settings = s.settings := rfl
@[simp] theorem State.filterChanged_bankHoming : s.filterChanged.bankHoming = s.bankHoming := rfl
@[simp] theorem State.filterChanged_due : s.filterChanged.due = { s.due with eval := true, grant := true } := rfl
@[simp] theorem State.filterChanged_free : s.filterChanged.free = s.free := rfl
@[simp] theorem State.filterChanged_pending : s.filterChanged.pending = s.pending := rfl

end Machine

end Sys2Proof
end

