-- ==== Sys2Proof/Laws/Reacts.lean ====
section
/-! SUPPORT. What the reactions of an event can do, said once: `Reacts s t` holds between a state and the one that passes,
evaluations, grants and travels make of it. One lemma for each operation of Machine/Ops.lean extends it. -/

namespace Sys2Proof.Machine

/-- What a reaction keeps, and the laws that it preserves. -/
structure Reacts (s t : State) : Prop where
  undisturbed : s.Undisturbed t
  interlocks : s.InterlockLaw → t.InterlockLaw
  counters : s.CounterLaw → t.CounterLaw
  channels : s.SettingsLaw → s.ChannelLaw → t.ChannelLaw
  bank : s.BankLaw → t.BankLaw
  still : ∀ f, s.Still f → t.Still f ∧ t.filters.get f = s.filters.get f ∧ t.channels.get f = s.channels.get f

theorem DoseChannel.Kept.refl (d : DoseChannel) : d.Kept d := ⟨rfl, Nat.le_refl _, rfl, rfl, rfl, rfl⟩

theorem DoseChannel.Kept.trans {d e f : DoseChannel} (h : d.Kept e) (k : e.Kept f) : d.Kept f :=
  ⟨k.1.trans h.1, Nat.le_trans k.2 h.2, k.3.trans h.3, k.4.trans h.4, k.5.trans h.5, k.6.trans h.6⟩

theorem Port.Kept.refl (q : Port) : q.Kept q := ⟨rfl, rfl, rfl, rfl, fun _ h => h⟩

theorem Port.Kept.trans {q r u : Port} (h : q.Kept r) (k : r.Kept u) : q.Kept u :=
  ⟨k.1.trans h.1, k.2.trans h.2, k.3.trans h.3, k.4.trans h.4, fun n x => k.5 n (h.5 n x)⟩

theorem Channel.Kept.refl (ch : Channel) : ch.Kept ch := ⟨rfl, rfl, rfl, rfl, rfl⟩

theorem Channel.Kept.trans {a b c : Channel} (h : a.Kept b) (k : b.Kept c) : a.Kept c :=
  ⟨k.1.trans h.1, k.2.trans h.2, k.3.trans h.3, k.4.trans h.4, k.5.trans h.5⟩

theorem State.Undisturbed.refl (s : State) : s.Undisturbed s where
  settings := rfl
  circuits := rfl
  flow := rfl
  meters := rfl
  waste := rfl
  available := rfl
  surge := rfl
  bulkLow := rfl
  stopActive := rfl
  stopRead := rfl
  creditPointer := rfl
  free := rfl
  pending := rfl
  plant := .inl rfl
  ports _ := Port.Kept.refl _
  doses _ := DoseChannel.Kept.refl _
  channels _ := Channel.Kept.refl _
  switches _ := rfl

theorem State.Undisturbed.trans {s t u : State} (h : s.Undisturbed t) (k : t.Undisturbed u) : s.Undisturbed u where
  settings := k.settings.trans h.settings
  circuits := k.circuits.trans h.circuits
  flow := k.flow.trans h.flow
  meters := k.meters.trans h.meters
  waste := k.waste.trans h.waste
  available := k.available.trans h.available
  surge := k.surge.trans h.surge
  bulkLow := k.bulkLow.trans h.bulkLow
  stopActive := k.stopActive.trans h.stopActive
  stopRead := k.stopRead.trans h.stopRead
  creditPointer := k.creditPointer.trans h.creditPointer
  free := k.free.trans h.free
  pending := k.pending.trans h.pending
  plant := by
    rcases k.plant with e | e
    · rw [e]; exact h.plant
    · exact .inr e
  ports p := (h.ports p).trans (k.ports p)
  doses c := (h.doses c).trans (k.doses c)
  channels f := (h.channels f).trans (k.channels f)
  switches f := (k.switches f).trans (h.switches f)

theorem Reacts.refl (s : State) : Reacts s s :=
  ⟨.refl s, id, id, fun _ => id, id, fun _ h => ⟨h, rfl, rfl⟩⟩

theorem State.SettingsLaw.of_eq {s t : State} (h : t.settings = s.settings) (k : s.SettingsLaw) : t.SettingsLaw := by
  intro i; rw [h]; exact k i

theorem Reacts.trans {s t u : State} (h : Reacts s t) (k : Reacts t u) : Reacts s u where
  undisturbed := h.undisturbed.trans k.undisturbed
  interlocks x := k.interlocks (h.interlocks x)
  counters x := k.counters (h.counters x)
  channels y x := k.channels (y.of_eq h.undisturbed.settings) (h.channels y x)
  bank x := k.bank (h.bank x)
  still f x := by
    obtain ⟨a, b, c⟩ := h.still f x
    obtain ⟨d, e, g⟩ := k.still f a
    exact ⟨d, e.trans b, g.trans c⟩

/-! ## Updates that a reaction makes -/

variable {a s : State}

/-- Any change of what is due. -/
theorem Reacts.withDue (h : Reacts a s) (d : Due) : Reacts a { s with due := d } :=
  h.trans
    ⟨⟨rfl, rfl, rfl, rfl, rfl, rfl, rfl, rfl, rfl, rfl, rfl, rfl, rfl, .inl rfl, fun _ => .refl _, fun _ => .refl _,
      fun _ => .refl _, fun _ => rfl⟩, id, id, fun _ => id, fun x => ⟨⟨x.queue.1, x.queue.2, x.queue.3⟩, x.setup⟩,
      fun _ x => ⟨⟨x.1, x.2, x.3, x.4, x.5, x.6⟩, rfl, rfl⟩⟩

theorem Reacts.needPass (h : Reacts a s) : Reacts a s.needPass := h.withDue _
theorem Reacts.needEval (h : Reacts a s) : Reacts a s.needEval := h.withDue _
theorem Reacts.needGrant (h : Reacts a s) : Reacts a s.needGrant := h.withDue _
theorem Reacts.filterChanged (h : Reacts a s) : Reacts a s.filterChanged := h.needEval.needGrant

/-- A port changed by notices alone. -/
theorem Reacts.updPort (h : Reacts a s) (p : PortId) {g : Port → Port} (hg : (s.ports.get p).Kept (g (s.ports.get p))) :
    Reacts a (s.updPort p g) :=
  h.trans
    { undisturbed :=
        { settings := rfl, circuits := rfl, flow := rfl, meters := rfl, waste := rfl, available := rfl, surge := rfl,
          bulkLow := rfl, stopActive := rfl, stopRead := rfl, creditPointer := rfl, free := rfl, pending := rfl, plant := .inl rfl
          ports := by
            intro q
            rw [State.updPort_ports, PerPort.get_set]
            split
            · next e => rw [e]; exact hg
            · exact .refl _
          doses := fun _ => .refl _, channels := fun _ => .refl _, switches := fun _ => rfl }
      interlocks := id, counters := id, channels := fun _ => id
      bank := fun x => ⟨⟨x.queue.1, x.queue.2, x.queue.3⟩, x.setup⟩
      still := fun _ x => ⟨⟨x.1, x.2, x.3, x.4, x.5, x.6⟩, rfl, rfl⟩ }

theorem Port.hasNotice_post (q : Port) (n m : Notice) : q.hasNotice n = true → (q.post m).hasNotice n = true := by
  intro h
  simp only [Port.hasNotice, Port.post, BitVec.getLsbD_or] at *
  simp [h]

theorem Port.post_kept (q : Port) (n : Notice) : q.Kept (q.post n) :=
  ⟨rfl, rfl, rfl, rfl, fun m h => q.hasNotice_post m n h⟩

theorem Reacts.post (h : Reacts a s) (p : PortId) (n : Notice) : Reacts a (s.post p n) :=
  h.updPort p (Port.post_kept _ _)

theorem Reacts.postTo (h : Reacts a s) (c : Option CircuitId) (n : Notice) : Reacts a (s.postTo c n) := by
  cases c with
  | none => exact h
  | some k => exact h.post _ _

theorem Reacts.postInterlocked (h : Reacts a s) (c : CircuitId) (r : Interlocks) : Reacts a (s.postInterlocked c r) :=
  h.updPort _ ⟨rfl, rfl, rfl, rfl, fun m x => Port.hasNotice_post _ m .doseInterlocked x⟩

/-- A filter that is not still where a reaction stands was not still where it began. -/
theorem Reacts.not_still (h : Reacts a s) {f : FilterId} (hn : ¬ s.Still f) : ¬ a.Still f :=
  fun x => hn (h.still f x).1

/-- A channel changed but for its contacts. -/
theorem Reacts.updChannel (h : Reacts a s) (f : FilterId) {g : Channel → Channel} (hn : ¬ a.Still f)
    (hk : (s.channels.get f).Kept (g (s.channels.get f)))
    (hr : s.SettingsLaw → (s.channels.get f).Ranged → (g (s.channels.get f)).Ranged) :
    Reacts a (s.updChannel f g) where
  undisturbed := h.undisturbed.trans
    { settings := rfl, circuits := rfl, flow := rfl, meters := rfl, waste := rfl, available := rfl, surge := rfl,
      bulkLow := rfl, stopActive := rfl, stopRead := rfl, creditPointer := rfl, free := rfl, pending := rfl, plant := .inl rfl
      ports := fun _ => .refl _, doses := fun _ => .refl _
      channels := by
        intro q
        rw [State.updChannel_channels, Bank.get_set]
        split
        · next e => rw [e]; exact hk
        · exact .refl _
      switches := fun _ => rfl }
  interlocks := h.interlocks
  counters := h.counters
  channels y x := by
    intro q
    rw [State.updChannel_channels, Bank.get_set]
    split
    · exact hr (y.of_eq h.undisturbed.settings) (h.channels y x f)
    · exact h.channels y x q
  bank x := ⟨⟨(h.bank x).queue.1, (h.bank x).queue.2, (h.bank x).queue.3⟩, (h.bank x).setup⟩
  still q x := by
    obtain ⟨y, y1, y2⟩ := h.still q x
    refine ⟨⟨y.1, y.2, y.3, y.4, y.5, y.6⟩, y1, ?_⟩
    rw [State.updChannel_channels, Bank.get_set]
    split
    · next e => exact absurd (e ▸ x) hn
    · exact y2

/-- A filter record changed, its state among the rest. -/
theorem Reacts.updFilter (h : Reacts a s) (f : FilterId) {g : FilterRecord → FilterRecord}
    (hs : a.Still f → g (s.filters.get f) = s.filters.get f)
    (hd : (g (s.filters.get f)).dpActive = (s.filters.get f).dpActive)
    (hr : (s.filters.get f).Ranged → (g (s.filters.get f)).Ranged)
    (hq : s.BankLaw → (g (s.filters.get f)).state.mayQueue = true ∨ ∀ e ∈ s.queue, e.filter ≠ f)
    (hu : s.BankLaw → s.plant = .setup →
      (g (s.filters.get f)).state = .unknown ∨ (g (s.filters.get f)).state = .fault) :
    Reacts a (s.updFilter f g) where
  undisturbed := h.undisturbed.trans
    { settings := rfl, circuits := rfl, flow := rfl, meters := rfl, waste := rfl, available := rfl, surge := rfl,
      bulkLow := rfl, stopActive := rfl, stopRead := rfl, creditPointer := rfl, free := rfl, pending := rfl, plant := .inl rfl
      ports := fun _ => .refl _, doses := fun _ => .refl _, channels := fun _ => .refl _
      switches := by
        intro q
        rw [State.updFilter_filters, Bank.get_set]
        split
        · next e => rw [e]; exact hd
        · rfl }
  interlocks := h.interlocks
  counters x := by
    intro q
    rw [State.updFilter_filters, Bank.get_set]
    split
    · exact hr (h.counters x f)
    · exact h.counters x q
  channels := h.channels
  bank x := by
    have y := h.bank x
    refine ⟨⟨?_, y.queue.2, y.queue.3⟩, fun z => ⟨(y.setup z).1, ?_⟩⟩
    · intro e he
      rw [State.updFilter_filters, Bank.get_set]
      split
      · next e' =>
        rcases hq y with m | m
        · exact m
        · exact absurd e' (m e he)
      · exact y.queue.1 e he
    · intro q
      rw [State.updFilter_filters, Bank.get_set]
      split
      · exact hu y z
      · exact (y.setup z).2 q
  still q x := by
    obtain ⟨y, y1, y2⟩ := h.still q x
    have e1 : (s.updFilter f g).filters.get q = s.filters.get q := by
      rw [State.updFilter_filters, Bank.get_set]
      split
      · next e => rw [hs (e ▸ x), e]
      · rfl
    exact ⟨⟨by rw [e1]; exact y.1, by rw [e1]; exact y.2, y.3, y.4, y.5, y.6⟩, e1.trans y1, y2⟩

/-- A filter record changed but for its state. -/
theorem Reacts.updRecord (h : Reacts a s) (f : FilterId) {g : FilterRecord → FilterRecord}
    (hs : a.Still f → g (s.filters.get f) = s.filters.get f)
    (he : (g (s.filters.get f)).state = (s.filters.get f).state)
    (hd : (g (s.filters.get f)).dpActive = (s.filters.get f).dpActive)
    (hr : (s.filters.get f).Ranged → (g (s.filters.get f)).Ranged) : Reacts a (s.updFilter f g) := by
  refine h.updFilter f hs hd hr ?_ ?_
  · intro x
    by_cases k : ∃ e ∈ s.queue, e.filter = f
    · obtain ⟨e, m, rfl⟩ := k
      exact .inl (he ▸ x.queue.1 e m)
    · exact .inr fun e m n => k ⟨e, m, n⟩
  · intro x y
    rw [he]; exact (x.setup y).2 f

/-- The request, the slots and the travel queue. -/
theorem Reacts.setRequest (h : Reacts a s) (f : FilterId) (r : Option TravelRequest) (hn : ¬ a.Still f) :
    Reacts a (s.setRequest f r) where
  undisturbed := h.undisturbed.trans { State.Undisturbed.refl s with }
  interlocks := h.interlocks
  counters := h.counters
  channels := h.channels
  bank x := ⟨⟨(h.bank x).queue.1, (h.bank x).queue.2, (h.bank x).queue.3⟩, (h.bank x).setup⟩
  still q x := by
    obtain ⟨y, y1, y2⟩ := h.still q x
    refine ⟨⟨y.1, y.2, y.3, ?_, y.5, y.6⟩, y1, y2⟩
    rw [State.setRequest_requests, Bank.get_set]
    split
    · next e => exact absurd (e ▸ x) hn
    · exact y.4

theorem Reacts.withTravel (h : Reacts a s) (k : Slots) (q : List FilterId)
    (hq : ∀ f ∈ q, f ∈ s.travelQueue ∨ ¬ a.Still f) : Reacts a { s with slots := k, travelQueue := q } where
  undisturbed := h.undisturbed.trans { State.Undisturbed.refl s with }
  interlocks := h.interlocks
  counters := h.counters
  channels := h.channels
  bank x := ⟨⟨(h.bank x).queue.1, (h.bank x).queue.2, (h.bank x).queue.3⟩, (h.bank x).setup⟩
  still g x := by
    obtain ⟨y, y1, y2⟩ := h.still g x
    refine ⟨⟨y.1, y.2, y.3, y.4, ?_, y.6⟩, y1, y2⟩
    intro m
    rcases hq g m with n | n
    · exact y.5 n
    · exact n x

/-- The Backwash Queue. -/
theorem Reacts.setQueue (h : Reacts a s) (q : List QueueEntry)
    (hq : ∀ e ∈ q, (∃ e' ∈ s.queue, e'.filter = e.filter) ∨ ¬ a.Still e.filter)
    (hl : s.BankLaw → (∀ e ∈ q, (s.filters.get e.filter).state.mayQueue = true) ∧ (q.map QueueEntry.filter).Nodup ∧
      q.Pairwise fun a b => b.urgent = true → a.urgent = true) :
    Reacts a (s.setQueue q) where
  undisturbed := h.undisturbed.trans { State.Undisturbed.refl s with }
  interlocks := h.interlocks
  counters := h.counters
  channels := h.channels
  bank x := ⟨⟨(hl (h.bank x)).1, (hl (h.bank x)).2.1, (hl (h.bank x)).2.2⟩, (h.bank x).setup⟩
  still f x := by
    obtain ⟨y, y1, y2⟩ := h.still f x
    refine ⟨⟨y.1, y.2, ?_, y.4, y.5, y.6⟩, y1, y2⟩
    intro e m n
    rcases hq e m with ⟨e', m', n'⟩ | k
    · exact y.3 e' m' (n'.trans n)
    · exact k (n ▸ x)

/-- The Line record. -/
theorem Reacts.setClean (h : Reacts a s) (r : Option LineRecord)
    (hr : ∀ x, r = some x → (∃ y, s.line.clean = some y ∧ y.filter = x.filter) ∨ ¬ a.Still x.filter)
    (hu : s.BankLaw → s.plant = .setup → r = none) : Reacts a (s.setClean r) where
  undisturbed := h.undisturbed.trans { State.Undisturbed.refl s with }
  interlocks := h.interlocks
  counters := h.counters
  channels := h.channels
  bank x := ⟨⟨(h.bank x).queue.1, (h.bank x).queue.2, (h.bank x).queue.3⟩, fun y => ⟨hu (h.bank x) y, ((h.bank x).setup y).2⟩⟩
  still f x := by
    obtain ⟨y, y1, y2⟩ := h.still f x
    refine ⟨⟨y.1, y.2, y.3, y.4, y.5, ?_⟩, y1, y2⟩
    intro z m n
    rcases hr z m with ⟨w, m', n'⟩ | k
    · exact y.6 w m' (n'.trans n)
    · exact k (n ▸ x)

theorem Reacts.setPump (h : Reacts a s) (on : Bool) : Reacts a (s.setPump on) where
  undisturbed := h.undisturbed.trans { State.Undisturbed.refl s with }
  interlocks := h.interlocks
  counters := h.counters
  channels := h.channels
  bank x := ⟨⟨(h.bank x).queue.1, (h.bank x).queue.2, (h.bank x).queue.3⟩, (h.bank x).setup⟩
  still f x := by
    obtain ⟨y, y1, y2⟩ := h.still f x
    exact ⟨⟨y.1, y.2, y.3, y.4, y.5, y.6⟩, y1, y2⟩

/-- The Line record goes, its filter no longer on the Line. -/
theorem Reacts.clearClean (h : Reacts a s) : Reacts a (s.setClean none) :=
  h.setClean none (fun _ x => nomatch x) (fun _ _ => rfl)

/-- The Line record replaced by one for the same filter. -/
theorem Reacts.keepClean (h : Reacts a s) {r x : LineRecord} (hs : s.line.clean = some r) (hf : x.filter = r.filter) :
    Reacts a (s.setClean (some x)) :=
  h.setClean (some x) (fun y e => .inl ⟨r, hs, by cases e; exact hf.symm⟩)
    (fun k p => absurd ((k.setup p).1.symm.trans hs) (by simp))

end Sys2Proof.Machine
end

