-- ==== Sys2Proof/Laws/Doses.lean ====
section
/-! SUPPORT. The Dose Channels' reasons and the path states: what forming a channel's state can do (07 R141, R142), and that
the path evaluation and the entry to RUNNING are reactions that keep the interlock law. -/

namespace Sys2Proof.Machine

/-! ## Forming the state of a Dose Channel -/

variable (s : State)

@[simp] theorem State.formDose_filters (c : CircuitId) (d : Nat) (r : Interlocks) :
    (s.formDose c d r).filters = s.filters := by
  unfold State.formDose; dsimp only; split <;> rfl

@[simp] theorem State.formDose_pathOpen (c : CircuitId) (d : Nat) (r : Interlocks) :
    (s.formDose c d r).pathOpen = s.pathOpen := by
  unfold State.formDose; dsimp only; split <;> rfl

@[simp] theorem State.formDose_creditPointer (c : CircuitId) (d : Nat) (r : Interlocks) :
    (s.formDose c d r).creditPointer = s.creditPointer := by
  unfold State.formDose; dsimp only; split <;> rfl

@[simp] theorem State.formDose_flow (c : CircuitId) (d : Nat) (r : Interlocks) :
    (s.formDose c d r).flow = s.flow := by
  unfold State.formDose; dsimp only; split <;> rfl

@[simp] theorem State.formDose_meters (c : CircuitId) (d : Nat) (r : Interlocks) :
    (s.formDose c d r).meters = s.meters := by
  unfold State.formDose; dsimp only; split <;> rfl

@[simp] theorem State.formDose_queue (c : CircuitId) (d : Nat) (r : Interlocks) :
    (s.formDose c d r).queue = s.queue := by
  unfold State.formDose; dsimp only; split <;> rfl

@[simp] theorem State.formDose_line (c : CircuitId) (d : Nat) (r : Interlocks) :
    (s.formDose c d r).line = s.line := by
  unfold State.formDose; dsimp only; split <;> rfl

@[simp] theorem State.formDose_waste (c : CircuitId) (d : Nat) (r : Interlocks) :
    (s.formDose c d r).waste = s.waste := by
  unfold State.formDose; dsimp only; split <;> rfl

@[simp] theorem State.formDose_channels (c : CircuitId) (d : Nat) (r : Interlocks) :
    (s.formDose c d r).channels = s.channels := by
  unfold State.formDose; dsimp only; split <;> rfl

@[simp] theorem State.formDose_requests (c : CircuitId) (d : Nat) (r : Interlocks) :
    (s.formDose c d r).requests = s.requests := by
  unfold State.formDose; dsimp only; split <;> rfl

@[simp] theorem State.formDose_travelQueue (c : CircuitId) (d : Nat) (r : Interlocks) :
    (s.formDose c d r).travelQueue = s.travelQueue := by
  unfold State.formDose; dsimp only; split <;> rfl

@[simp] theorem State.formDose_slots (c : CircuitId) (d : Nat) (r : Interlocks) :
    (s.formDose c d r).slots = s.slots := by
  unfold State.formDose; dsimp only; split <;> rfl

@[simp] theorem State.formDose_surge (c : CircuitId) (d : Nat) (r : Interlocks) :
    (s.formDose c d r).surge = s.surge := by
  unfold State.formDose; dsimp only; split <;> rfl

@[simp] theorem State.formDose_bulkLow (c : CircuitId) (d : Nat) (r : Interlocks) :
    (s.formDose c d r).bulkLow = s.bulkLow := by
  unfold State.formDose; dsimp only; split <;> rfl

@[simp] theorem State.formDose_stopActive (c : CircuitId) (d : Nat) (r : Interlocks) :
    (s.formDose c d r).stopActive = s.stopActive := by
  unfold State.formDose; dsimp only; split <;> rfl

@[simp] theorem State.formDose_stopRead (c : CircuitId) (d : Nat) (r : Interlocks) :
    (s.formDose c d r).stopRead = s.stopRead := by
  unfold State.formDose; dsimp only; split <;> rfl

@[simp] theorem State.formDose_plant (c : CircuitId) (d : Nat) (r : Interlocks) :
    (s.formDose c d r).plant = s.plant := by
  unfold State.formDose; dsimp only; split <;> rfl

@[simp] theorem State.formDose_settings (c : CircuitId) (d : Nat) (r : Interlocks) :
    (s.formDose c d r).settings = s.settings := by
  unfold State.formDose; dsimp only; split <;> rfl

@[simp] theorem State.formDose_bankHoming (c : CircuitId) (d : Nat) (r : Interlocks) :
    (s.formDose c d r).bankHoming = s.bankHoming := by
  unfold State.formDose; dsimp only; split <;> rfl

@[simp] theorem State.formDose_due (c : CircuitId) (d : Nat) (r : Interlocks) :
    (s.formDose c d r).due = s.due := by
  unfold State.formDose; dsimp only; split <;> rfl

@[simp] theorem State.formDose_free (c : CircuitId) (d : Nat) (r : Interlocks) :
    (s.formDose c d r).free = s.free := by
  unfold State.formDose; dsimp only; split <;> rfl

@[simp] theorem State.formDose_pending (c : CircuitId) (d : Nat) (r : Interlocks) :
    (s.formDose c d r).pending = s.pending := by
  unfold State.formDose; dsimp only; split <;> rfl

@[simp] theorem State.formDose_circuits (c : CircuitId) (d : Nat) (r : Interlocks) :
    (s.formDose c d r).circuits = s.circuits.set c { s.circuits.get c with demand := d } := by
  unfold State.formDose; dsimp only; split <;> rfl

@[simp] theorem State.formDose_doses (c : CircuitId) (d : Nat) (r : Interlocks) :
    (s.formDose c d r).doses = s.doses.set c
      { s.doses.get c with
        reasons := r
        accumulator := (s.doses.get c).formedAccumulator (s.circuits.get c).demand d r
        owed := (s.doses.get c).formedOwed (s.circuits.get c).demand d r } := by
  unfold State.formDose; dsimp only; split <;> rfl

theorem State.formDose_ports (c : CircuitId) (d : Nat) (r : Interlocks) :
    (s.formDose c d r).ports =
      if (s.doses.get c).posts (s.circuits.get c).demand d r then
        s.ports.set (.circuit c)
          { (s.ports.get (.circuit c)).post .doseInterlocked with interlock := some r }
      else s.ports := by
  unfold State.formDose; dsimp only; split <;> rfl

theorem State.formDose_port_kept (c : CircuitId) (d : Nat) (r : Interlocks) (p : PortId) :
    (s.ports.get p).Kept ((s.formDose c d r).ports.get p) := by
  rw [State.formDose_ports]
  split
  · rw [PerPort.get_set]
    split
    · next e => subst e; exact ⟨rfl, rfl, rfl, rfl, fun m x => Port.hasNotice_post _ m .doseInterlocked x⟩
    · exact .refl _
  · exact .refl _

theorem DoseChannel.formedOwed_le (d : DoseChannel) (o n : Nat) (r : Interlocks) : d.formedOwed o n r ≤ d.owed := by
  unfold DoseChannel.formedOwed
  split
  · exact Nat.le_refl _
  · split
    · exact Nat.le_refl _
    · exact Nat.zero_le _

theorem DoseChannel.formedAccumulator_le (d : DoseChannel) (o n : Nat) (r : Interlocks) :
    d.formedAccumulator o n r ≤ d.accumulator := by
  unfold DoseChannel.formedAccumulator
  split
  · exact Nat.zero_le _
  · exact Nat.le_refl _

/-- With D and UNCONFIRMED as they were the accumulator stays (07 R142). -/
theorem DoseChannel.formedAccumulator_eq (d : DoseChannel) (o : Nat) (r : Interlocks)
    (h : r.unconfirmed = d.reasons.unconfirmed) : d.formedAccumulator o o r = d.accumulator := by
  unfold DoseChannel.formedAccumulator
  rw [h]; simp

@[simp] theorem State.formReasons_filters (c : CircuitId) (g : Interlocks → Interlocks) :
    (s.formReasons c g).filters = s.filters := State.formDose_filters ..

@[simp] theorem State.formReasons_pathOpen (c : CircuitId) (g : Interlocks → Interlocks) :
    (s.formReasons c g).pathOpen = s.pathOpen := State.formDose_pathOpen ..

@[simp] theorem State.formReasons_creditPointer (c : CircuitId) (g : Interlocks → Interlocks) :
    (s.formReasons c g).creditPointer = s.creditPointer := State.formDose_creditPointer ..

@[simp] theorem State.formReasons_flow (c : CircuitId) (g : Interlocks → Interlocks) :
    (s.formReasons c g).flow = s.flow := State.formDose_flow ..

@[simp] theorem State.formReasons_meters (c : CircuitId) (g : Interlocks → Interlocks) :
    (s.formReasons c g).meters = s.meters := State.formDose_meters ..

@[simp] theorem State.formReasons_queue (c : CircuitId) (g : Interlocks → Interlocks) :
    (s.formReasons c g).queue = s.queue := State.formDose_queue ..

@[simp] theorem State.formReasons_line (c : CircuitId) (g : Interlocks → Interlocks) :
    (s.formReasons c g).line = s.line := State.formDose_line ..

@[simp] theorem State.formReasons_waste (c : CircuitId) (g : Interlocks → Interlocks) :
    (s.formReasons c g).waste = s.waste := State.formDose_waste ..

@[simp] theorem State.formReasons_channels (c : CircuitId) (g : Interlocks → Interlocks) :
    (s.formReasons c g).channels = s.channels := State.formDose_channels ..

@[simp] theorem State.formReasons_requests (c : CircuitId) (g : Interlocks → Interlocks) :
    (s.formReasons c g).requests = s.requests := State.formDose_requests ..

@[simp] theorem State.formReasons_travelQueue (c : CircuitId) (g : Interlocks → Interlocks) :
    (s.formReasons c g).travelQueue = s.travelQueue := State.formDose_travelQueue ..

@[simp] theorem State.formReasons_slots (c : CircuitId) (g : Interlocks → Interlocks) :
    (s.formReasons c g).slots = s.slots := State.formDose_slots ..

@[simp] theorem State.formReasons_surge (c : CircuitId) (g : Interlocks → Interlocks) :
    (s.formReasons c g).surge = s.surge := State.formDose_surge ..

@[simp] theorem State.formReasons_bulkLow (c : CircuitId) (g : Interlocks → Interlocks) :
    (s.formReasons c g).bulkLow = s.bulkLow := State.formDose_bulkLow ..

@[simp] theorem State.formReasons_stopActive (c : CircuitId) (g : Interlocks → Interlocks) :
    (s.formReasons c g).stopActive = s.stopActive := State.formDose_stopActive ..

@[simp] theorem State.formReasons_stopRead (c : CircuitId) (g : Interlocks → Interlocks) :
    (s.formReasons c g).stopRead = s.stopRead := State.formDose_stopRead ..

@[simp] theorem State.formReasons_plant (c : CircuitId) (g : Interlocks → Interlocks) :
    (s.formReasons c g).plant = s.plant := State.formDose_plant ..

@[simp] theorem State.formReasons_settings (c : CircuitId) (g : Interlocks → Interlocks) :
    (s.formReasons c g).settings = s.settings := State.formDose_settings ..

@[simp] theorem State.formReasons_bankHoming (c : CircuitId) (g : Interlocks → Interlocks) :
    (s.formReasons c g).bankHoming = s.bankHoming := State.formDose_bankHoming ..

@[simp] theorem State.formReasons_due (c : CircuitId) (g : Interlocks → Interlocks) :
    (s.formReasons c g).due = s.due := State.formDose_due ..

@[simp] theorem State.formReasons_free (c : CircuitId) (g : Interlocks → Interlocks) :
    (s.formReasons c g).free = s.free := State.formDose_free ..

@[simp] theorem State.formReasons_pending (c : CircuitId) (g : Interlocks → Interlocks) :
    (s.formReasons c g).pending = s.pending := State.formDose_pending ..

@[simp] theorem State.formReasons_circuits (c : CircuitId) (g : Interlocks → Interlocks) :
    (s.formReasons c g).circuits = s.circuits := by
  unfold State.formReasons; rw [State.formDose_circuits]; exact PerCircuit.set_get _ _

/-- The reasons of every channel after one channel's set was formed. -/
theorem State.formReasons_reasons (c d : CircuitId) (g : Interlocks → Interlocks) :
    ((s.formReasons c g).doses.get d).reasons =
      if d = c then g (s.doses.get c).reasons else (s.doses.get d).reasons := by
  unfold State.formReasons
  rw [State.formDose_doses, PerCircuit.get_set]
  split <;> rfl

theorem State.formReasons_dose_kept (c : CircuitId) (g : Interlocks → Interlocks)
    (hg : (g (s.doses.get c).reasons).unconfirmed = (s.doses.get c).reasons.unconfirmed) (d : CircuitId) :
    (s.doses.get d).Kept ((s.formReasons c g).doses.get d) := by
  unfold State.formReasons
  rw [State.formDose_doses, PerCircuit.get_set]
  split
  · next e =>
    subst e
    exact ⟨DoseChannel.formedAccumulator_eq _ _ _ hg, DoseChannel.formedOwed_le .., rfl, rfl, rfl, rfl⟩
  · exact .refl _

/-- Forming a reason other than UNCONFIRMED leaves everything but the reasons, the owed strokes and the notices. -/
theorem State.formReasons_undisturbed (c : CircuitId) (g : Interlocks → Interlocks)
    (hg : (g (s.doses.get c).reasons).unconfirmed = (s.doses.get c).reasons.unconfirmed) :
    s.Undisturbed (s.formReasons c g) where
  settings := by simp
  circuits := by simp
  flow := by simp
  meters := by simp
  waste := by simp
  available := by simp
  surge := by simp
  bulkLow := by simp
  stopActive := by simp
  stopRead := by simp
  creditPointer := by simp
  free := by simp
  pending := by simp
  plant := by simp
  ports := fun p => State.formDose_port_kept s c _ _ p
  doses := State.formReasons_dose_kept s c g hg
  channels := by simp [Channel.Kept.refl]
  switches := by simp

/-! ## Path states and the entry to RUNNING -/

variable {s}
variable {a : State}

/-- A filter that nothing moves depends on the table, the queue, the requests and the Line alone. -/
theorem State.Still.of_eq {s t : State} {f : FilterId} (h : s.Still f) (e1 : t.filters = s.filters) (e2 : t.queue = s.queue)
    (e3 : t.requests = s.requests) (e4 : t.travelQueue = s.travelQueue) (e5 : t.line = s.line) : t.Still f :=
  ⟨by rw [e1]; exact h.1, by rw [e1]; exact h.2, by rw [e2]; exact h.3, by rw [e3]; exact h.4, by rw [e4]; exact h.5,
    by rw [e5]; exact h.6⟩

/-- An update of what the queue, the bank, the travels and the Line do not hold. -/
theorem Reacts.aside (h : Reacts a s) {t : State} (hu : s.Undisturbed t) (hi : s.InterlockLaw → t.InterlockLaw)
    (e1 : t.filters = s.filters) (e2 : t.queue = s.queue) (e3 : t.requests = s.requests)
    (e4 : t.travelQueue = s.travelQueue) (e5 : t.line = s.line) (e6 : t.channels = s.channels)
    (e7 : t.plant = .setup → s.plant = .setup) : Reacts a t :=
  h.trans
    { undisturbed := hu, interlocks := hi
      counters := fun x q => by rw [e1]; exact x q
      channels := fun _ x q => by rw [e6]; exact x q
      bank := fun x =>
        ⟨⟨fun e m => by rw [e1]; exact x.queue.1 e (e2 ▸ m), by rw [e2]; exact x.queue.2,
            by rw [e2]; exact x.queue.3⟩,
          fun z => ⟨by rw [e5]; exact (x.setup (e7 z)).1, fun q => by rw [e1]; exact (x.setup (e7 z)).2 q⟩⟩
      still := fun q x => ⟨x.of_eq e1 e2 e3 e4 e5, by rw [e1], by rw [e6]⟩ }

/-- Evaluating a path state touches the path state, NO_PATH, the owed strokes and the notices (01 R11, 07 R144). -/
theorem Reacts.evalPath (h : Reacts a s) (c : CircuitId) : Reacts a (s.evalPath c) := by
  unfold State.evalPath
  dsimp only
  split
  · exact h
  · refine h.aside (State.Undisturbed.trans (t := { s with pathOpen := s.pathOpen.set c (s.hasPath c) })
        { State.Undisturbed.refl s with } (.trans (t := State.post { s with pathOpen := s.pathOpen.set c (s.hasPath c) }
          (.circuit c) (if s.hasPath c then .pathRestored else .pathLost)) (((Reacts.refl _).post _ _).undisturbed)
          (State.formReasons_undisturbed _ _ _ rfl))) ?_ ?_ ?_ ?_ ?_ ?_ ?_ ?_
    · intro x d
      have y := x d
      rw [State.formReasons_reasons]
      simp only [State.trueReasons, State.formReasons_pathOpen, State.formReasons_flow, State.formReasons_stopActive,
        State.formReasons_bulkLow, State.formReasons_circuits, State.formReasons_plant, State.post, State.updPort_doses,
        State.updPort_pathOpen, State.updPort_flow, State.updPort_stopActive, State.updPort_bulkLow,
        State.updPort_circuits, State.updPort_plant, State.flowProven, PerCircuit.get_set] at *
      split
      · next e => subst e; rw [y]
      · exact y
    all_goals simp [State.post]

theorem Reacts.evalPaths (h : Reacts a s) : Reacts a s.evalPaths := by
  unfold State.evalPaths
  simp only [allCircuits, List.foldl]
  exact (((h.evalPath _).evalPath _).evalPath _).evalPath _

/-- A change of every channel's reasons, UNCONFIRMED apart. -/
theorem State.formAllReasons_undisturbed (s : State) (g : Interlocks → Interlocks)
    (hg : ∀ r, (g r).unconfirmed = r.unconfirmed) : s.Undisturbed (s.formAllReasons g) := by
  unfold State.formAllReasons
  simp only [allCircuits, List.foldl]
  exact .trans (State.formReasons_undisturbed _ _ _ (hg _)) (.trans (State.formReasons_undisturbed _ _ _ (hg _))
    (.trans (State.formReasons_undisturbed _ _ _ (hg _)) (State.formReasons_undisturbed _ _ _ (hg _))))

/-- The reasons of every channel after all were formed. -/
theorem State.formAllReasons_reasons (s : State) (g : Interlocks → Interlocks) (c : CircuitId) :
    ((s.formAllReasons g).doses.get c).reasons = g (s.doses.get c).reasons := by
  unfold State.formAllReasons
  simp only [allCircuits, List.foldl, State.formReasons_reasons]
  cases c <;> simp

@[simp] theorem State.formAllReasons_filters (s : State) (g : Interlocks → Interlocks) :
    (s.formAllReasons g).filters = s.filters := by
  simp [State.formAllReasons, allCircuits]

@[simp] theorem State.formAllReasons_pathOpen (s : State) (g : Interlocks → Interlocks) :
    (s.formAllReasons g).pathOpen = s.pathOpen := by
  simp [State.formAllReasons, allCircuits]

@[simp] theorem State.formAllReasons_flow (s : State) (g : Interlocks → Interlocks) :
    (s.formAllReasons g).flow = s.flow := by
  simp [State.formAllReasons, allCircuits]

@[simp] theorem State.formAllReasons_queue (s : State) (g : Interlocks → Interlocks) :
    (s.formAllReasons g).queue = s.queue := by
  simp [State.formAllReasons, allCircuits]

@[simp] theorem State.formAllReasons_line (s : State) (g : Interlocks → Interlocks) :
    (s.formAllReasons g).line = s.line := by
  simp [State.formAllReasons, allCircuits]

@[simp] theorem State.formAllReasons_channels (s : State) (g : Interlocks → Interlocks) :
    (s.formAllReasons g).channels = s.channels := by
  simp [State.formAllReasons, allCircuits]

@[simp] theorem State.formAllReasons_requests (s : State) (g : Interlocks → Interlocks) :
    (s.formAllReasons g).requests = s.requests := by
  simp [State.formAllReasons, allCircuits]

@[simp] theorem State.formAllReasons_travelQueue (s : State) (g : Interlocks → Interlocks) :
    (s.formAllReasons g).travelQueue = s.travelQueue := by
  simp [State.formAllReasons, allCircuits]

@[simp] theorem State.formAllReasons_slots (s : State) (g : Interlocks → Interlocks) :
    (s.formAllReasons g).slots = s.slots := by
  simp [State.formAllReasons, allCircuits]

@[simp] theorem State.formAllReasons_surge (s : State) (g : Interlocks → Interlocks) :
    (s.formAllReasons g).surge = s.surge := by
  simp [State.formAllReasons, allCircuits]

@[simp] theorem State.formAllReasons_bulkLow (s : State) (g : Interlocks → Interlocks) :
    (s.formAllReasons g).bulkLow = s.bulkLow := by
  simp [State.formAllReasons, allCircuits]

@[simp] theorem State.formAllReasons_circuits (s : State) (g : Interlocks → Interlocks) :
    (s.formAllReasons g).circuits = s.circuits := by
  simp [State.formAllReasons, allCircuits]

@[simp] theorem State.formAllReasons_stopActive (s : State) (g : Interlocks → Interlocks) :
    (s.formAllReasons g).stopActive = s.stopActive := by
  simp [State.formAllReasons, allCircuits]

@[simp] theorem State.formAllReasons_stopRead (s : State) (g : Interlocks → Interlocks) :
    (s.formAllReasons g).stopRead = s.stopRead := by
  simp [State.formAllReasons, allCircuits]

@[simp] theorem State.formAllReasons_plant (s : State) (g : Interlocks → Interlocks) :
    (s.formAllReasons g).plant = s.plant := by
  simp [State.formAllReasons, allCircuits]

@[simp] theorem State.formAllReasons_settings (s : State) (g : Interlocks → Interlocks) :
    (s.formAllReasons g).settings = s.settings := by
  simp [State.formAllReasons, allCircuits]

@[simp] theorem State.formAllReasons_bankHoming (s : State) (g : Interlocks → Interlocks) :
    (s.formAllReasons g).bankHoming = s.bankHoming := by
  simp [State.formAllReasons, allCircuits]

@[simp] theorem State.formAllReasons_due (s : State) (g : Interlocks → Interlocks) :
    (s.formAllReasons g).due = s.due := by
  simp [State.formAllReasons, allCircuits]

@[simp] theorem State.formAllReasons_free (s : State) (g : Interlocks → Interlocks) :
    (s.formAllReasons g).free = s.free := by
  simp [State.formAllReasons, allCircuits]

@[simp] theorem State.formAllReasons_pending (s : State) (g : Interlocks → Interlocks) :
    (s.formAllReasons g).pending = s.pending := by
  simp [State.formAllReasons, allCircuits]

@[simp] theorem State.formAllReasons_waste (s : State) (g : Interlocks → Interlocks) :
    (s.formAllReasons g).waste = s.waste := by
  simp [State.formAllReasons, allCircuits]

@[simp] theorem State.formAllReasons_creditPointer (s : State) (g : Interlocks → Interlocks) :
    (s.formAllReasons g).creditPointer = s.creditPointer := by
  simp [State.formAllReasons, allCircuits]

/-- The entry to RUNNING (11 R203). -/
theorem Reacts.enterRunning (h : Reacts a s) : Reacts a s.enterRunning := by
  unfold State.enterRunning
  dsimp only
  refine Reacts.filterChanged (Reacts.needPass ?_)
  refine h.aside (State.Undisturbed.trans (t := { s with plant := .running })
      { State.Undisturbed.refl s with plant := .inr rfl }
      (.trans (t := State.post { s with plant := .running } .plant .homingDone) (((Reacts.refl _).post _ _).undisturbed)
        (State.formAllReasons_undisturbed _ _ fun _ => rfl))) ?_ ?_ ?_ ?_ ?_ ?_ ?_ ?_
  · intro x c
    have y := x c
    rw [State.formAllReasons_reasons]
    simp only [State.trueReasons, State.post, State.updPort_doses, State.flowProven, State.formAllReasons_pathOpen,
      State.formAllReasons_flow, State.formAllReasons_stopActive, State.formAllReasons_bulkLow,
      State.formAllReasons_circuits, State.formAllReasons_plant, State.updPort_pathOpen, State.updPort_flow,
      State.updPort_stopActive, State.updPort_bulkLow, State.updPort_circuits, State.updPort_plant] at *
    rw [y]; rfl
  all_goals simp [State.post]

/-- The report of a homing's end (11 R203). -/
theorem Reacts.reportHoming (h : Reacts a s) (f : FilterId) : Reacts a (s.reportHoming f) := by
  unfold State.reportHoming
  split
  · dsimp only
    have k : Reacts a { s with bankHoming := s.bankHoming.set f false } :=
      h.aside { State.Undisturbed.refl s with } (fun x => x) rfl rfl rfl rfl rfl rfl id
    split
    · exact k.enterRunning
    · exact k
  · exact h

end Sys2Proof.Machine
end

