-- ==== Sys2Proof/Laws/Bank.lean ====
section
/-! SUPPORT. The Backwash Queue and the Filter Table as reactions: filing, removal and evaluation of entries (03), and the
transitions of a filter (01). -/

namespace Sys2Proof.Machine

variable {a s : State}

/-! ## The queue's lists -/

theorem State.entryOf_some {f : FilterId} {e : QueueEntry} (h : s.entryOf f = some e) : e ∈ s.queue ∧ e.filter = f :=
  ⟨List.mem_of_find?_eq_some h, by simpa using List.find?_some h⟩

theorem State.entryOf_none {f : FilterId} (h : s.entryOf f = none) : ∀ e ∈ s.queue, e.filter ≠ f := by
  intro e m n
  have := List.find?_eq_none.1 h e m
  simp [n] at this

theorem insertEntry_perm (q : List QueueEntry) (e : QueueEntry) : (insertEntry q e).Perm (e :: q) := by
  unfold insertEntry
  split
  · exact List.perm_middle.trans (.cons _ (by rw [List.takeWhile_append_dropWhile]))
  · exact List.perm_append_singleton e q

theorem mem_removeEntry {q : List QueueEntry} {f : FilterId} {e : QueueEntry} (h : e ∈ removeEntry q f) :
    e ∈ q ∧ e.filter ≠ f := by
  simpa [removeEntry] using h

theorem removeEntry_order {q : List QueueEntry} (f : FilterId)
    (h : q.Pairwise fun a b => b.urgent = true → a.urgent = true) :
    (removeEntry q f).Pairwise fun a b => b.urgent = true → a.urgent = true :=
  h.sublist List.filter_sublist

/-- An entry put at the last place of its group keeps the order of the queue (03 R48). -/
theorem insertEntry_order {q : List QueueEntry} (e : QueueEntry)
    (h : q.Pairwise fun a b => b.urgent = true → a.urgent = true) :
    (insertEntry q e).Pairwise fun a b => b.urgent = true → a.urgent = true := by
  unfold insertEntry
  split
  · next u =>
    have k : (q.takeWhile QueueEntry.urgent ++ q.dropWhile QueueEntry.urgent).Pairwise
        fun a b => b.urgent = true → a.urgent = true := by rw [List.takeWhile_append_dropWhile]; exact h
    rw [List.pairwise_append] at k ⊢
    refine ⟨k.1, List.pairwise_cons.2 ⟨fun _ _ _ => u, k.2.1⟩, ?_⟩
    intro a m b n
    rcases List.mem_cons.1 n with rfl | n
    · exact fun _ => List.mem_takeWhile_imp m
    · exact k.2.2 a m b n
  · next u =>
    rw [List.pairwise_append]
    refine ⟨h, List.pairwise_singleton _ _, ?_⟩
    intro a _ b n k
    rw [List.mem_singleton.1 n] at k
    exact absurd k u

/-- An entry replaced by one as urgent as it was keeps the order of the queue. -/
theorem replaceEntry_order {q : List QueueEntry} {e : QueueEntry}
    (hu : ∀ x ∈ q, x.filter = e.filter → x.urgent = e.urgent)
    (h : q.Pairwise fun a b => b.urgent = true → a.urgent = true) :
    (replaceEntry q e).Pairwise fun a b => b.urgent = true → a.urgent = true := by
  unfold replaceEntry
  rw [List.pairwise_map]
  have g : ∀ x ∈ q, (if x.filter == e.filter then e else x).urgent = x.urgent := by
    intro x m
    split
    · next k => exact (hu x m (by simpa using k)).symm
    · rfl
  exact h.imp_of_mem fun m n k => by rw [g _ m, g _ n]; exact k

theorem removeEntry_nodup {q : List QueueEntry} (f : FilterId) (h : (q.map QueueEntry.filter).Nodup) :
    ((removeEntry q f).map QueueEntry.filter).Nodup :=
  h.sublist (List.filter_sublist.map _)

theorem map_replaceEntry (q : List QueueEntry) (e : QueueEntry) :
    (replaceEntry q e).map QueueEntry.filter = q.map QueueEntry.filter := by
  unfold replaceEntry
  rw [List.map_map]
  refine List.map_congr_left fun x _ => ?_
  simp only [Function.comp]
  split
  · next k => exact (by simpa using k : x.filter = e.filter).symm
  · rfl

theorem exists_of_map {q r : List QueueEntry} (h : q.map QueueEntry.filter = r.map QueueEntry.filter) :
    ∀ e ∈ q, ∃ e' ∈ r, e'.filter = e.filter := by
  intro e m
  have k : e.filter ∈ r.map QueueEntry.filter := h ▸ List.mem_map_of_mem m
  simpa using k

/-! ## Filing, removal, evaluation (03) -/

theorem Reacts.takeEligibility (h : Reacts a s) (f : FilterId) (v : Eligibility) : Reacts a (s.takeEligibility f v) := by
  cases v
  · exact h
  · exact h
  · exact h.needPass
  · exact h.postTo _ _

/-- An entry replaced in its place, as urgent as it was. -/
theorem Reacts.replaceEntry (h : Reacts a s) {f : FilterId} {e e' : QueueEntry} (he : s.entryOf f = some e)
    (hf : e'.filter = e.filter) (hu : e'.urgent = e.urgent) : Reacts a (s.setQueue (replaceEntry s.queue e')) := by
  have hq := map_replaceEntry s.queue e'
  refine h.setQueue _ (fun e m => .inl (exists_of_map hq e m)) fun x =>
    ⟨fun e m => ?_, hq ▸ x.queue.2, replaceEntry_order (fun y m n => ?_) x.queue.3⟩
  · obtain ⟨e', m', n'⟩ := exists_of_map hq e m
    exact n' ▸ x.queue.1 e' m'
  · obtain ⟨m', -⟩ := State.entryOf_some he
    rw [hu, List.inj_on_of_nodup_map x.queue.2 m m' (n.trans hf)]

/-- Entries gone from the queue. -/
theorem Reacts.removeEntry (h : Reacts a s) (f : FilterId) : Reacts a (s.setQueue (removeEntry s.queue f)) :=
  h.setQueue _ (fun e m => .inl ⟨e, (mem_removeEntry m).1, rfl⟩)
    fun x => ⟨fun e m => x.queue.1 e (mem_removeEntry m).1, removeEntry_nodup f x.queue.2, removeEntry_order f x.queue.3⟩

theorem mayQueue_not_still {f : FilterId} (h : (s.filters.get f).state.mayQueue = true) : ¬ s.Still f := by
  intro x
  rcases x.1 with k | k <;> rw [k] at h <;> exact absurd h (by decide)

/-- Filing and merging (03 R48, R49). -/
theorem Reacts.fileEntry (h : Reacts a s) (f : FilterId) (r : Reasons) : Reacts a (s.fileEntry f r) := by
  unfold State.fileEntry
  split
  · next hm =>
    split
    · next e he =>
      obtain ⟨m, n⟩ := State.entryOf_some he
      dsimp only
      split
      · refine Reacts.needGrant (Reacts.needEval (h.setQueue _ ?_ ?_))
        · intro x k
          rcases List.mem_cons.1 ((insertEntry_perm _ _).mem_iff.1 k) with rfl | k
          · exact .inl ⟨e, m, rfl⟩
          · exact .inl ⟨x, (mem_removeEntry k).1, rfl⟩
        · intro x
          constructor
          · intro y k
            rcases List.mem_cons.1 ((insertEntry_perm _ _).mem_iff.1 k) with rfl | k
            · exact x.queue.1 e m
            · exact x.queue.1 y (mem_removeEntry k).1
          · refine ⟨?_, insertEntry_order _ (removeEntry_order f x.queue.3)⟩
            rw [((insertEntry_perm _ _).map _).nodup_iff, List.map_cons, List.nodup_cons]
            refine ⟨?_, removeEntry_nodup f x.queue.2⟩
            intro k
            obtain ⟨y, k1, k2⟩ := List.mem_map.1 k
            exact (mem_removeEntry k1).2 (k2.trans n)
      · next hu =>
        refine Reacts.needEval (h.replaceEntry he (by rfl) ?_)
        cases hx : e.urgent <;> simp_all [QueueEntry.urgent, Reasons.union]
    · next he =>
      refine Reacts.needGrant (Reacts.needEval (Reacts.takeEligibility (h.setQueue _ ?_ ?_) _ _))
      · intro x k
        rcases List.mem_cons.1 ((insertEntry_perm _ _).mem_iff.1 k) with rfl | k
        · exact .inr (h.not_still (mayQueue_not_still hm))
        · exact .inl ⟨x, k, rfl⟩
      · intro x
        constructor
        · intro y k
          rcases List.mem_cons.1 ((insertEntry_perm _ _).mem_iff.1 k) with rfl | k
          · exact hm
          · exact x.queue.1 y k
        · refine ⟨?_, insertEntry_order _ x.queue.3⟩
          rw [((insertEntry_perm _ _).map _).nodup_iff, List.map_cons, List.nodup_cons]
          refine ⟨?_, x.queue.2⟩
          intro k
          obtain ⟨y, k1, k2⟩ := List.mem_map.1 k
          exact State.entryOf_none he y k1 k2
  · exact h

theorem Reacts.dropEntry (h : Reacts a s) (f : FilterId) : Reacts a (s.dropEntry f) := by
  unfold State.dropEntry
  split
  · exact (h.removeEntry f).needPass.filterChanged
  · exact h

theorem Reacts.evaluateEntry (h : Reacts a s) (f : FilterId) : Reacts a (s.evaluateEntry f) := by
  unfold State.evaluateEntry
  split
  · exact h
  · next e he =>
    dsimp only
    split
    · exact h
    · refine Reacts.needGrant (Reacts.takeEligibility (h.replaceEntry he ?_ ?_) _ _) <;> rfl

/-- A fold of reactions. -/
theorem Reacts.foldl {α : Type} {g : State → α → State} (hg : ∀ (s : State) (x : α), Reacts a s → Reacts a (g s x))
    (l : List α) {s : State} (h : Reacts a s) : Reacts a (l.foldl g s) := by
  induction l generalizing s with
  | nil => exact h
  | cons x l ih => exact ih (hg s x h)

theorem Reacts.evaluateQueue (h : Reacts a s) : Reacts a s.evaluateQueue :=
  Reacts.foldl (fun _ f k => k.evaluateEntry f) _ h

/-! ## Transitions of a filter (01) -/

@[simp] theorem FilterRecord.enter_state (r : FilterRecord) (st : FilterState) (n : Nat) :
    (r.enter st n).state = st := by
  unfold FilterRecord.enter; split <;> simp_all

@[simp] theorem FilterRecord.enter_circuit (r : FilterRecord) (st : FilterState) (n : Nat) :
    (r.enter st n).circuit = r.circuit := by
  unfold FilterRecord.enter; split <;> rfl

@[simp] theorem FilterRecord.enter_dpActive (r : FilterRecord) (st : FilterState) (n : Nat) :
    (r.enter st n).dpActive = r.dpActive := by
  unfold FilterRecord.enter; split <;> rfl

theorem FilterRecord.Ranged.enter {r : FilterRecord} (h : r.Ranged) (st : FilterState) (n : Nat) :
    (r.enter st n).Ranged := by
  unfold FilterRecord.enter; split <;> exact ⟨h.1, h.2, h.3, h.4⟩

theorem Reacts.moveFilter (h : Reacts a s) {f : FilterId} (st : FilterState) {g : FilterRecord → FilterRecord}
    (hn : ¬ a.Still f) (hd : ∀ r, (g r).dpActive = r.dpActive) (hr : ∀ r : FilterRecord, r.Ranged → (g r).Ranged)
    (hq : s.BankLaw → st.mayQueue = true ∨ ∀ e ∈ s.queue, e.filter ≠ f)
    (hu : s.BankLaw → s.plant = .setup → st = .unknown ∨ st = .fault) : Reacts a (s.moveFilter f st g) := by
  unfold State.moveFilter
  refine Reacts.filterChanged (h.updFilter f (fun x => absurd x hn) ?_ ?_ ?_ ?_)
  · simp [hd]
  · exact fun x => (hr _ x).enter _ _
  · simpa using hq
  · simpa using hu

/-- In SETUP a filter is in no state but UNKNOWN and FAULT. -/
theorem BankLaw.not_setup (h : s.BankLaw) {f : FilterId} (h1 : (s.filters.get f).state ≠ .unknown)
    (h2 : (s.filters.get f).state ≠ .fault) : s.plant ≠ .setup := fun k => by
  rcases (h.setup k).2 f with x | x
  · exact h1 x
  · exact h2 x

/-- The queue law keeps a filter out of the queue in a state that forbids an entry. -/
theorem BankLaw.no_entry (h : s.BankLaw) {f : FilterId} (h1 : (s.filters.get f).state.mayQueue = false) :
    ∀ e ∈ s.queue, e.filter ≠ f := by
  intro e m n
  have := h.queue.1 e m
  rw [n, h1] at this
  cases this

theorem FilterRecord.Ranged.faulted {r : FilterRecord} (h : r.Ranged) (k : FaultKind) : (r.faulted k).Ranged :=
  ⟨h.1, h.2, h.3, h.4⟩

theorem Reacts.loseCover (h : Reacts a s) (c : Option CircuitId) : Reacts a (s.loseCover c) := by
  cases c with
  | none => exact h
  | some k =>
    refine Reacts.foldl (fun t f x => ?_) _ h
    refine x.updRecord f ?_ rfl rfl fun y => ⟨y.1, y.2, y.3, y.4⟩
    intro y
    have e := (x.still f y).1.circuit
    revert e
    generalize t.filters.get f = r
    intro e
    cases r
    simp_all [FilterRecord.on]

@[simp] theorem State.loseCover_queue (c : Option CircuitId) : (s.loseCover c).queue = s.queue := by
  cases c <;> simp [State.loseCover, allFilters]
@[simp] theorem State.loseCover_line (c : Option CircuitId) : (s.loseCover c).line = s.line := by
  cases c <;> simp [State.loseCover, allFilters]
@[simp] theorem State.loseCover_plant (c : Option CircuitId) : (s.loseCover c).plant = s.plant := by
  cases c <;> simp [State.loseCover, allFilters]

theorem State.loseCover_state (c : Option CircuitId) (f : FilterId) :
    ((s.loseCover c).filters.get f).state = (s.filters.get f).state := by
  cases c <;> cases f <;> simp [State.loseCover, allFilters, Bank.get_set]

/-- Entry to FAULT (01 R9): the entry goes in the same event. -/
theorem Reacts.faultFilter (h : Reacts a s) {f : FilterId} (kind : FaultKind) (hn : ¬ a.Still f) :
    Reacts a (s.faultFilter f kind) := by
  unfold State.faultFilter
  dsimp only
  split
  · exact h
  · refine Reacts.needPass (Reacts.postTo (Reacts.post ?_ _ _) _ _)
    have e : State.setQueue (if s.faultEndsCover f = true then
          (s.moveFilter f .fault fun r => r.faulted kind).loseCover (s.filters.get f).circuit
        else s.moveFilter f .fault fun r => r.faulted kind) (Machine.removeEntry s.queue f) =
        if s.faultEndsCover f = true then
          ((s.setQueue (Machine.removeEntry s.queue f)).moveFilter f .fault fun r => r.faulted kind).loseCover
            (s.filters.get f).circuit
        else (s.setQueue (Machine.removeEntry s.queue f)).moveFilter f .fault fun r => r.faulted kind := by
      split
      · cases (s.filters.get f).circuit <;> rfl
      · rfl
    have q : State.queue (if s.faultEndsCover f = true then
          (s.moveFilter f .fault fun r => r.faulted kind).loseCover (s.filters.get f).circuit
        else s.moveFilter f .fault fun r => r.faulted kind) = s.queue := by
      split
      · rw [State.loseCover_queue]; rfl
      · rfl
    rw [q, e]
    have k : Reacts a ((s.setQueue (Machine.removeEntry s.queue f)).moveFilter f .fault fun r => r.faulted kind) :=
      (h.removeEntry f).moveFilter .fault hn (fun _ => rfl) (fun _ x => x.faulted kind)
        (fun _ => .inr fun e m => (mem_removeEntry m).2) (fun _ _ => .inr rfl)
    split
    · exact k.loseCover _
    · exact k

theorem Reacts.checkThroughput (h : Reacts a s) (f : FilterId) : Reacts a (s.checkThroughput f) := by
  unfold State.checkThroughput; split
  · exact h.fileEntry _ _
  · exact h

theorem Reacts.checkRunTime (h : Reacts a s) (f : FilterId) : Reacts a (s.checkRunTime f) := by
  unfold State.checkRunTime; split
  · exact h.fileEntry _ _
  · exact h

theorem Reacts.checkLoads (h : Reacts a s) (f : FilterId) : Reacts a (s.checkLoads f) :=
  (h.checkThroughput f).checkRunTime f

/-- A filter in a state that is neither UNKNOWN nor FAULT takes another. -/
theorem Reacts.leaveState (h : Reacts a s) {f : FilterId} (st : FilterState) {g : FilterRecord → FilterRecord}
    (hn : ¬ a.Still f) (hd : ∀ r, (g r).dpActive = r.dpActive) (hr : ∀ r : FilterRecord, r.Ranged → (g r).Ranged)
    (h1 : (s.filters.get f).state ≠ .unknown) (h2 : (s.filters.get f).state ≠ .fault)
    (hq : st.mayQueue = true ∨ (s.filters.get f).state.mayQueue = false) : Reacts a (s.moveFilter f st g) :=
  h.moveFilter st hn hd hr
    (fun x => hq.imp id fun y => BankLaw.no_entry x y)
    (fun x y => absurd y (BankLaw.not_setup x h1 h2))

/-- The arrival of a filter in travel (01 R5, R6, R7). -/
theorem Reacts.filterArrived (h : Reacts a s) {f : FilterId} (hn : ¬ a.Still f) : Reacts a (s.filterArrived f) := by
  unfold State.filterArrived
  split
  · next e =>
    unfold State.arriveJoining
    exact (((h.leaveState .service hn (fun _ => rfl) (fun _ x => x) (by simp [e]) (by simp [e])
      (.inl rfl)).postTo _ _).checkLoads f).needPass
  · next e =>
    exact (h.leaveState .standby hn (fun _ => rfl) (fun _ x => x) (by simp [e]) (by simp [e]) (.inl rfl)).needPass
  · next e =>
    exact h.leaveState .outOfUse hn (fun _ => rfl) (fun _ x => x) (by simp [e]) (by simp [e]) (.inr (by rw [e]; rfl))
  · next e =>
    unfold State.arriveHoming
    dsimp only
    have k := h.leaveState .standby hn (g := id) (fun _ => rfl) (fun _ x => x) (by simp [e]) (by simp [e]) (.inl rfl)
    split
    · exact (k.fileEntry _ _).needPass.reportHoming _
    · exact k.needPass.reportHoming _
  all_goals exact h

theorem Reacts.filterOutcome (h : Reacts a s) {f : FilterId} (o : TravelOutcome) (hn : ¬ a.Still f) :
    Reacts a (s.filterOutcome f o) := by
  unfold State.filterOutcome
  split
  · exact h.filterArrived hn
  · dsimp only
    split
    · exact (h.faultFilter _ hn).reportHoming _
    · exact h.faultFilter _ hn

end Sys2Proof.Machine
end

