-- ==== Sys2Proof/Laws/Travel.lean ====
section
/-! SUPPORT. The Backwash Line and the Selector Drive as reactions: the end of a clean (04), the delivery of an outcome, the
hand-out of slots and the filing of travels (05, 06). -/

namespace Sys2Proof.Machine

variable {a s : State}

/-! ## The Line between its travels (04) -/

theorem State.line_not_still {r : LineRecord} (h : s.line.clean = some r) : ¬ s.Still r.filter :=
  fun x => x.6 r h rfl

theorem BankLaw.line_not_setup {r : LineRecord} (x : s.BankLaw) (h : s.line.clean = some r) : s.plant ≠ .setup :=
  fun y => by rw [(x.setup y).1] at h; cases h

theorem Reacts.beginRun (h : Reacts a s) {r x : LineRecord} (hs : s.line.clean = some r) (hf : x.filter = r.filter)
    (p : Phase) : Reacts a (s.beginRun x p) :=
  (h.keepClean hs (by exact hf)).setPump true

theorem Reacts.arriveRun (h : Reacts a s) {r : LineRecord} (hs : s.line.clean = some r) (p : Phase) :
    Reacts a (s.arriveRun r p) := by
  unfold State.arriveRun
  split
  · exact h.keepClean hs rfl
  · exact h.beginRun hs rfl p

theorem Reacts.lineIdle (h : Reacts a s) : Reacts a s.lineIdle :=
  h.clearClean.needPass.filterChanged

theorem FilterRecord.Ranged.afterClean {r : FilterRecord} (h : r.Ranged) (o : CleanOutcome) : (r.afterClean o).Ranged := by
  unfold FilterRecord.afterClean
  split
  · exact ⟨Nat.zero_le _, Nat.zero_le _, Nat.le_refl _, Nat.min_le_right _ _⟩
  · exact ⟨h.1, h.2, h.3, h.4⟩

@[simp] theorem FilterRecord.afterClean_state (r : FilterRecord) (o : CleanOutcome) : (r.afterClean o).state = r.state := by
  unfold FilterRecord.afterClean; split <;> rfl

@[simp] theorem FilterRecord.afterClean_dpActive (r : FilterRecord) (o : CleanOutcome) :
    (r.afterClean o).dpActive = r.dpActive := by
  unfold FilterRecord.afterClean; split <;> rfl

theorem Reacts.afterClean (h : Reacts a s) {r : LineRecord} (hs : s.line.clean = some r) (o : CleanOutcome) :
    Reacts a (s.updFilter r.filter fun x => x.afterClean o) :=
  h.updRecord _ (fun x => absurd x (h.not_still (State.line_not_still hs))) (by simp) (by simp) fun x => x.afterClean o

theorem Reacts.faultClean (h : Reacts a s) {r : LineRecord} (hs : s.line.clean = some r) (kind : FaultKind) :
    Reacts a (s.faultClean r kind) := by
  unfold State.faultClean
  have hn : ¬ a.Still r.filter := h.not_still (State.line_not_still hs)
  exact ((((h.setPump false).afterClean (r := r) hs _).faultFilter _ hn).postTo _ _).lineIdle

theorem Reacts.endUnrinsed (h : Reacts a s) {r : LineRecord} (hs : s.line.clean = some r) : Reacts a (s.endUnrinsed r) := by
  unfold State.endUnrinsed
  have hn : ¬ a.Still r.filter := h.not_still (State.line_not_still hs)
  exact (((h.updRecord _ (fun x => absurd x hn) rfl rfl fun x => ⟨x.1, x.2, x.3, x.4⟩).faultFilter _ hn).postTo _ _).lineIdle

theorem Reacts.returnFilter (h : Reacts a s) {r : LineRecord} (hs : s.line.clean = some r) :
    Reacts a (s.returnFilter r) := by
  have hn : ¬ a.Still r.filter := h.not_still (State.line_not_still hs)
  unfold State.returnFilter State.returnToStandby State.returnToCircuit
  split
  · refine Reacts.postTo ?_ _ _
    exact h.moveFilter .standby hn (fun _ => rfl) (fun _ x => ⟨x.1, x.2, x.3, x.4⟩) (fun _ => .inl rfl)
      (fun x y => absurd y (BankLaw.line_not_setup x hs))
  · refine Reacts.postTo ?_ _ _
    exact h.moveFilter .service hn (fun _ => rfl) (fun _ x => ⟨x.1, x.2, x.3, x.4⟩) (fun _ => .inl rfl)
      (fun x y => absurd y (BankLaw.line_not_setup x hs))

theorem Reacts.checkLoadsInService (h : Reacts a s) (f : FilterId) : Reacts a (s.checkLoadsInService f) := by
  unfold State.checkLoadsInService
  split
  · exact h.checkLoads f
  · exact h

theorem Reacts.endReturned (h : Reacts a s) {r : LineRecord} (hs : s.line.clean = some r) : Reacts a (s.endReturned r) := by
  unfold State.endReturned
  dsimp only
  have k := (h.afterClean hs r.outcome).returnFilter (r := r) hs
  refine Reacts.lineIdle (Reacts.postTo ?_ _ _)
  split
  · exact (k.fileEntry _ _).checkLoadsInService _
  · exact k.checkLoadsInService _

theorem Reacts.endClean (h : Reacts a s) {r : LineRecord} (hs : s.line.clean = some r) : Reacts a (s.endClean r) := by
  unfold State.endClean
  split
  · exact h.endUnrinsed hs
  · exact h.endReturned hs

theorem Reacts.lineArrived (h : Reacts a s) {r : LineRecord} (hs : s.line.clean = some r) : Reacts a (s.lineArrived r) := by
  unfold State.lineArrived
  split
  · exact h.arriveRun hs _
  · exact h.arriveRun hs _
  · exact h.endClean hs
  · split
    · exact h.endClean hs
    · exact h
  all_goals exact h

theorem Reacts.lineOutcome (h : Reacts a s) (f : FilterId) (o : TravelOutcome) : Reacts a (s.lineOutcome f o) := by
  unfold State.lineOutcome
  split
  · exact h
  · next r hs =>
    split
    · split
      · exact h.lineArrived hs
      · exact h.faultClean hs _
    · exact h

/-- The delivery of an outcome (05 R92, 06 R130). -/
theorem Reacts.deliver (h : Reacts a s) (q : Requester) {f : FilterId} (o : TravelOutcome) (hn : ¬ a.Still f) :
    Reacts a (s.deliver q f o) := by
  unfold State.deliver
  split
  · exact h.lineOutcome f o
  all_goals exact h.filterOutcome o hn

/-! ## Channels -/

theorem Stop.position_lt (k : Stop) : k.position < Config.revolution := by
  cases k with
  | circuit c => cases c <;> decide
  | _ => decide

theorem Channel.Kept.of (ch : Channel) {st : ChannelState} {p : Option Nat} {v f cr : Nat} {d : Option Dir} {sl ov : Bool}
    {pr : Profile} {se : Bool} {ti : Option Nat} {so : Option Stop} {ed : Option EdgeRecord} {ho : Option HomingPhase}
    {sr : Nat} {dd : Bool} :
    ch.Kept { ch with
      state := st, position := p, speed := v, residue := f, creep := cr, dir := d, slowLatch := sl, overrun := ov,
      profile := pr, seated := se, settleTimer := ti, settleStop := so, edge := ed, homing := ho, search := sr,
      dirOut := dd } := ⟨rfl, rfl, rfl, rfl, rfl⟩

theorem Channel.ended_kept (ch : Channel) (o : TravelOutcome) : ch.Kept (ch.ended o) := .of ch
theorem Channel.halt_kept (ch : Channel) (st : ChannelState) : ch.Kept (ch.halt st) := .of ch
theorem Channel.pause_kept (ch : Channel) : ch.Kept ch.pause := .of ch
theorem Channel.begin_kept (ch : Channel) (d : Dir) (n : Nat) : ch.Kept (ch.begin d n) := .of ch

theorem Channel.Ranged.ended {ch : Channel} (h : ch.Ranged) (o : TravelOutcome) : (ch.ended o).Ranged := by
  refine ⟨fun p e => ?_, by simp [Channel.ended], h.3, h.4, h.5⟩
  simp only [Channel.ended] at e
  split at e
  · cases e
  · exact h.1 p e

theorem Channel.Ranged.halt {ch : Channel} (h : ch.Ranged) (st : ChannelState) : (ch.halt st).Ranged :=
  ⟨h.1, by simp [Channel.halt], h.3, h.4, h.5⟩

theorem Channel.Ranged.pause {ch : Channel} (h : ch.Ranged) : ch.pause.Ranged :=
  ⟨h.1, by simp [Channel.pause, Channel.halt], h.3, h.4, h.5⟩

theorem Channel.Ranged.begin {ch : Channel} (h : ch.Ranged) (d : Dir) {n : Nat} (hn : n ≤ 15) : (ch.begin d n).Ranged :=
  ⟨h.1, by simp [Channel.begin], hn, h.4, h.5⟩

/-- A channel after a start, whatever the start made of it. -/
def Channel.Started (ch : Channel) (x : Channel × Option TravelOutcome) : Prop :=
  ch.Kept x.1 ∧ (ch.Ranged → x.1.Ranged)

theorem Channel.started_self (ch : Channel) (o : Option TravelOutcome) : ch.Started (ch, o) := ⟨.refl _, id⟩
theorem Channel.started_halt (ch : Channel) (st : ChannelState) (o : Option TravelOutcome) : ch.Started (ch.halt st, o) :=
  ⟨ch.halt_kept st, fun h => h.halt st⟩
theorem Channel.started_pause (ch : Channel) (o : Option TravelOutcome) : ch.Started (ch.pause, o) :=
  ⟨ch.pause_kept, fun h => h.pause⟩
theorem Channel.started_begin (ch : Channel) (d : Dir) (o : Option TravelOutcome) :
    ch.Started (ch.begin d ch.profile.startCreep, o) :=
  ⟨ch.begin_kept d _, fun h => h.begin d h.copied⟩
theorem Channel.started_begin_zero (ch : Channel) (d : Dir) (o : Option TravelOutcome) : ch.Started (ch.begin d 0, o) :=
  ⟨ch.begin_kept d _, fun h => h.begin d (Nat.zero_le _)⟩

theorem Channel.start_started (ch : Channel) (t : Stop) (b : Bool) : ch.Started (ch.start t b) := by
  unfold Channel.start
  split
  · exact ch.started_self _
  · split
    · exact ch.started_self _
    · split
      · exact ch.started_halt _ _
      · split
        · exact ch.started_pause _
        · exact ch.started_begin _ _

theorem Channel.startHoming_started (ch : Channel) (b : Bool) : ch.Started (ch.startHoming b) := by
  unfold Channel.startHoming
  split
  · exact ch.started_self _
  · split
    · exact ch.started_halt _ _
    · split
      · exact ch.started_pause _
      · exact ch.started_begin_zero _ _

theorem Channel.afterDwell_started (ch : Channel) (t : Stop) (b : Bool) : ch.Started (ch.afterDwell t b) := by
  unfold Channel.afterDwell
  split
  · exact ch.started_pause _
  · split
    · split
      · exact ch.started_self _
      · exact ch.started_begin_zero _ _
    · split
      · exact ch.started_self _
      · split
        · exact ch.started_self _
        · exact ch.started_begin _ _

/-! ## Travels (05) -/

/-- The end of a travel and the delivery of its outcome (05 R96). -/
theorem Reacts.finishTravel (h : Reacts a s) {f : FilterId} (o : TravelOutcome) (hn : ¬ a.Still f) :
    Reacts a (s.finishTravel f o) := by
  unfold State.finishTravel
  dsimp only
  have k := ((h.updChannel f (g := fun ch => ch.ended o) hn (Channel.ended_kept _ _) (fun _ x => x.ended o)).setRequest f
    none hn).withTravel (((s.updChannel f fun ch => ch.ended o).setRequest f none).slots.release f)
    (((s.updChannel f fun ch => ch.ended o).setRequest f none).travelQueue.filter fun g => g != f)
    (fun g m => .inl (List.mem_of_mem_filter m))
  split
  · exact k.deliver _ _ hn
  · exact k

theorem Reacts.afterStart (h : Reacts a s) {f : FilterId} {x : Channel × Option TravelOutcome} (hn : ¬ a.Still f)
    (hx : (s.channels.get f).Started x) : Reacts a (s.afterStart f x) := by
  unfold State.afterStart
  dsimp only
  have k := h.updChannel f (g := fun _ => x.1) hn hx.1 (fun _ => hx.2)
  split
  · exact k
  · exact k.finishTravel _ hn

theorem Reacts.startTravel (h : Reacts a s) {f : FilterId} (t : Stop) (hn : ¬ a.Still f) : Reacts a (s.startTravel f t) :=
  h.afterStart hn (Channel.start_started _ _ _)

theorem Reacts.startAny (h : Reacts a s) {f : FilterId} (t : Stop) (hn : ¬ a.Still f) : Reacts a (s.startAny f t) := by
  unfold State.startAny
  split
  · exact h.afterStart hn (Channel.startHoming_started _ _)
  · exact h.startTravel t hn

theorem Reacts.seatConfirmed (h : Reacts a s) {f : FilterId} (hn : ¬ a.Still f) : Reacts a (s.seatConfirmed f) := by
  unfold State.seatConfirmed
  split
  · exact h
  · next r _ =>
    dsimp only
    have k := h.updChannel f (g := fun ch =>
      { ch with position := some ((s.channels.get f).settleStop.getD r.target).position, seated := true,
                settleTimer := none, settleStop := none }) hn (.of _)
      (fun _ x => ⟨fun p e => by cases e; exact Stop.position_lt _, x.2, x.3, x.4, x.5⟩)
    split
    · exact k.finishTravel _ hn
    · have m := k.updChannel f (g := fun ch => { ch.halt .settling with homing := none }) hn (.of _)
        (fun _ x => ⟨x.1, by simp [Channel.halt], x.3, x.4, x.5⟩)
      split
      · exact m.startTravel _ hn
      · exact ((m.setRequest f _ hn).updChannel f (g := fun ch => { ch with state := .waiting }) hn (.of _)
          (fun _ x => ⟨x.1, x.2, x.3, x.4, x.5⟩)).withTravel _ _ (fun g y => by
            rcases List.mem_append.1 y with y | y
            · exact .inl y
            · exact .inr (by rw [List.mem_singleton.1 y]; exact hn))

theorem Reacts.enterSettling (h : Reacts a s) {f : FilterId} (t : Stop) (hn : ¬ a.Still f) :
    Reacts a (s.enterSettling f t) := by
  unfold State.enterSettling
  dsimp only
  have k := h.updChannel f (g := fun ch =>
    { ch.halt .settling with
      overrun := false, settleStop := some t,
      settleTimer := if ch.detent then none else some s.settings.detentSettle }) hn (.of _)
    (fun _ x => ⟨x.1, by simp [Channel.halt], x.3, x.4, x.5⟩)
  split
  · exact k.seatConfirmed hn
  · exact k

theorem Reacts.withSlots (h : Reacts a s) (k : Slots) : Reacts a { s with slots := k } :=
  h.withTravel k s.travelQueue fun _ m => .inl m

theorem Reacts.giveSlot (h : Reacts a s) {f : FilterId} (hn : ¬ a.Still f) : Reacts a (s.giveSlot f) := by
  unfold State.giveSlot
  split
  · exact h
  · next r _ =>
    dsimp only
    have k := (((h.setRequest f (some { r with active := true }) hn).updChannel f
      (g := fun ch => { ch with profile := s.settings.profile, slowLatch := false }) hn (.of _)
      (fun y x => ⟨x.1, x.2, x.3, by
        have := y .startCreep
        simp only [Item.inRange, within, Settings.read, Bool.and_eq_true] at this
        exact of_decide_eq_true this.2, x.5⟩)).withSlots
        (((s.setRequest f (some { r with active := true })).updChannel f
          fun ch => { ch with profile := s.settings.profile, slowLatch := false }).slots.take f))
    split
    · exact (k.updChannel f (g := Channel.prepareHoming) hn (.of _)
        (fun _ x => ⟨fun p e => (nomatch e), x.2, x.3, x.4, Nat.zero_le _⟩)).startAny _ hn
    · split
      · exact k.enterSettling _ hn
      · exact k.startTravel _ hn

theorem Reacts.handOutUpTo (n : Nat) (h : Reacts a s) : Reacts a (State.handOutUpTo n s) := by
  induction n generalizing s with
  | zero => exact h
  | succ n ih =>
    unfold State.handOutUpTo
    split
    · exact h
    · next f rest e =>
      split
      · refine ih (Reacts.giveSlot (h.withTravel s.slots rest fun g m => .inl (e ▸ List.mem_cons_of_mem _ m)) ?_)
        exact h.not_still fun x => x.travel (by rw [e]; exact List.mem_cons_self)
      · exact h

/-- The hand-out of slots (05 R95). -/
theorem Reacts.handOut (h : Reacts a s) : Reacts a s.handOut := h.handOutUpTo _

theorem Reacts.endTravel (h : Reacts a s) {f : FilterId} (o : TravelOutcome) (hn : ¬ a.Still f) :
    Reacts a (s.endTravel f o) := (h.finishTravel o hn).handOut

theorem Channel.retargeted_started (ch : Channel) (c : Nat) (t : Stop) : ch.Started (ch.retargeted c t, none) := by
  unfold Channel.retargeted
  split
  · exact ⟨.of ch, fun x => ⟨x.1, x.2, x.3, x.4, x.5⟩⟩
  · exact ch.started_self none

theorem Reacts.retarget (h : Reacts a s) {f : FilterId} (r : TravelRequest) (t : Stop) (q : Requester) (hn : ¬ a.Still f) :
    Reacts a (s.retarget f r t q) := by
  unfold State.retarget
  dsimp only
  split
  · exact h.setRequest f _ hn
  · exact (h.setRequest f _ hn).updChannel f hn (Channel.retargeted_started _ _ _).1
      fun _ => (Channel.retargeted_started _ _ _).2

theorem Reacts.fileWaiting (h : Reacts a s) {f : FilterId} (t : Stop) (q : Requester) (hn : ¬ a.Still f) :
    Reacts a (s.fileWaiting f t q) := by
  unfold State.fileWaiting
  refine Reacts.handOut (Reacts.withTravel ?_ _ _ ?_)
  · exact (h.setRequest f _ hn).updChannel f hn (.of _) (fun _ x => ⟨x.1, x.2, x.3, x.4, x.5⟩)
  · intro g y
    rcases List.mem_append.1 y with y | y
    · exact .inl y
    · exact .inr (by rw [List.mem_singleton.1 y]; exact hn)

/-- A travel request arrives (05 R93). -/
theorem Reacts.fileTravel (h : Reacts a s) {f : FilterId} (t : Stop) (q : Requester) (hn : ¬ a.Still f) :
    Reacts a (s.fileTravel f t q) := by
  unfold State.fileTravel
  split
  · exact h.retarget _ _ _ hn
  · split
    · split
      · exact h.fileWaiting _ _ hn
      · exact h.deliver _ _ hn
    · split
      · exact (h.setRequest f _ hn).enterSettling _ hn
      · exact h.fileWaiting _ _ hn

theorem Reacts.resume (h : Reacts a s) (f : FilterId) : Reacts a (s.resume f) := by
  unfold State.resume
  split
  · exact h
  · next r e =>
    split
    · exact h.startAny _ (h.not_still fun x => by rw [x.request] at e; cases e)
    · exact h

/-- Every PAUSED channel resumes (05 R111). -/
theorem Reacts.resumeAll (h : Reacts a s) : Reacts a s.resumeAll := by
  unfold State.resumeAll
  split
  · exact h
  · exact (Reacts.foldl (fun _ f k => k.resume f) _ h).handOut

end Sys2Proof.Machine
end

