-- ==== Sys2Proof/Laws/Passes.lean ====
section
/-! SUPPORT. The Backwash Sequence, the allocation pass, the grant and the end of an event as reactions (01, 03, 04): what an
event's own effect does not touch, the end of the event leaves as it was. -/

namespace Sys2Proof.Machine

variable {a s : State}

/-! ## The Line asking for travels (04) -/

theorem Reacts.lineTravel (h : Reacts a s) {r x : LineRecord} (hs : s.line.clean = some r) (hf : x.filter = r.filter)
    (t : Stop) (q : Requester) : Reacts a ((s.setClean (some x)).fileTravel r.filter t q) :=
  (h.keepClean hs hf).fileTravel _ _ (h.not_still (State.line_not_still hs))

theorem Reacts.toRinse (h : Reacts a s) {r x : LineRecord} (hs : s.line.clean = some r) (hf : x.filter = r.filter) :
    Reacts a (s.toRinse x) := by
  unfold State.toRinse
  dsimp only
  rw [hf]
  refine Reacts.lineTravel (h.setPump false) (r := r) hs ?_ _ _
  exact hf

theorem Reacts.beginReturning (h : Reacts a s) {r x : LineRecord} (hs : s.line.clean = some r)
    (hf : x.filter = r.filter) : Reacts a (s.beginReturning x) := by
  unfold State.beginReturning
  dsimp only
  rw [hf]
  refine Reacts.lineTravel (h.setPump false) (r := r) hs ?_ _ _
  exact hf

theorem Reacts.refreshReturn (h : Reacts a s) : Reacts a s.refreshReturn := by
  unfold State.refreshReturn
  split
  · exact h
  · next r hs =>
    dsimp only
    split
    · exact h
    · split
      · refine h.lineTravel hs ?_ _ _
        rfl
      · exact h.keepClean hs rfl

theorem Reacts.rinsed (h : Reacts a s) {f : FilterId} (hn : ¬ a.Still f) : Reacts a (s.rinsed f) :=
  h.updRecord f (fun x => absurd x hn) rfl rfl fun x => ⟨x.1, x.2, x.3, x.4⟩

theorem Reacts.endRun (h : Reacts a s) {r x : LineRecord} (hs : s.line.clean = some r) (hf : x.filter = r.filter)
    (b : Bool) : Reacts a (s.endRun x b) := by
  unfold State.endRun
  split
  · refine h.toRinse hs ?_
    split <;> exact hf
  · have hn : ¬ a.Still x.filter := hf ▸ h.not_still (State.line_not_still hs)
    exact (h.rinsed hn).beginReturning (r := r) hs hf

theorem Reacts.lineWastePulse (h : Reacts a s) : Reacts a s.lineWastePulse := by
  unfold State.lineWastePulse
  split
  · exact h
  · next r hs =>
    split
    · dsimp only
      split
      · refine h.endRun hs ?_ _
        rfl
      · exact h.keepClean hs rfl
    · exact h

theorem Reacts.linePhaseExpiry (h : Reacts a s) : Reacts a s.linePhaseExpiry := by
  unfold State.linePhaseExpiry
  split
  · exact h
  · next r hs =>
    split
    · split
      · exact h.endRun hs rfl _
      · exact h
    all_goals exact h

theorem Reacts.lineSuspend (h : Reacts a s) : Reacts a s.lineSuspend := by
  unfold State.lineSuspend
  split
  · exact h
  · next r hs =>
    split
    · exact (h.setPump false).keepClean (r := r) hs rfl
    · exact h

theorem Reacts.lineResume (h : Reacts a s) : Reacts a s.lineResume := by
  unfold State.lineResume
  split
  · exact h
  · next r hs =>
    split
    · split
      · refine Reacts.setPump ?_ true
        exact h.keepClean hs rfl
      all_goals exact h.beginRun hs rfl _
    · exact h

theorem Reacts.lineLevel (h : Reacts a s) : Reacts a s.lineLevel := by
  unfold State.lineLevel
  split
  · exact h.lineResume
  · exact h

theorem Reacts.lineSuspendExpiry (h : Reacts a s) : Reacts a s.lineSuspendExpiry := by
  unfold State.lineSuspendExpiry
  split
  · exact h
  · next r hs =>
    split
    · dsimp only
      split
      · exact (h.post _ _).beginReturning (r := r) hs rfl
      · exact (h.post _ _).beginReturning (r := r) hs rfl
    · exact h

theorem Reacts.lineStop (h : Reacts a s) : Reacts a s.lineStop := by
  unfold State.lineStop
  split
  · exact h
  · next r hs =>
    split
    · exact h
    · exact (h.setPump false).keepClean (r := r) hs rfl

theorem Reacts.continueReturning (h : Reacts a s) {r : LineRecord} (hs : s.line.clean = some r) :
    Reacts a (s.continueReturning r) := by
  unfold State.continueReturning
  dsimp only
  split
  · refine h.lineTravel hs ?_ _ _
    rfl
  · exact h.keepClean hs rfl

theorem Reacts.lineRecover (h : Reacts a s) : Reacts a s.lineRecover := by
  unfold State.lineRecover
  split
  · exact h
  · next r hs =>
    split
    · split
      · exact h.beginReturning hs rfl
      · split
        · exact h.toRinse hs rfl
        · exact h.beginReturning hs rfl
      · exact h.toRinse hs rfl
      · exact h.toRinse hs rfl
      all_goals exact h.continueReturning hs
    · exact h

theorem Reacts.abortClean (h : Reacts a s) {r : LineRecord} (hs : s.line.clean = some r) :
    Reacts a (s.abortClean r).2 := by
  unfold State.abortClean
  dsimp only
  split
  · dsimp only; split
    · exact h.keepClean hs rfl
    · exact h.beginReturning hs rfl
  · split
    · dsimp only; split
      · exact h.keepClean hs rfl
      · exact h.toRinse hs rfl
    · dsimp only; split
      · exact h.keepClean hs rfl
      · exact h.beginReturning hs rfl
  all_goals exact h

/-! ## The allocation pass (01 section 1.4) -/

theorem State.not_still_of {f : FilterId} (h1 : (s.filters.get f).state ≠ .fault)
    (h2 : (s.filters.get f).state ≠ .outOfUse) : ¬ s.Still f := by
  intro x
  rcases x.1 with k | k
  · exact h1 k
  · exact h2 k

/-- A pass in the making is a reaction of a RUNNING plant. -/
structure PassWork.Reacts (a : State) (w : PassWork) : Prop where
  state : Machine.Reacts a w.state
  plant : w.state.plant = .running

variable {w : PassWork}

/-- A pass moves a filter of the bank. -/
theorem PassWork.Reacts.move (h : w.Reacts a) {f : FilterId} (st : FilterState) {g : FilterRecord → FilterRecord}
    (hm : st.mayQueue = true) (h1 : (w.state.filters.get f).state ≠ .fault)
    (h2 : (w.state.filters.get f).state ≠ .outOfUse) (hd : ∀ r, (g r).dpActive = r.dpActive)
    (hr : ∀ r : FilterRecord, r.Ranged → (g r).Ranged) : Machine.Reacts a (w.state.moveFilter f st g) :=
  h.state.moveFilter st (h.state.not_still (State.not_still_of h1 h2)) hd hr (fun _ => .inl hm)
    (fun _ y => absurd (h.plant.symm.trans y) (by decide))

theorem PassWork.Reacts.record (h : w.Reacts a) {f : FilterId} {g : FilterRecord → FilterRecord}
    (h1 : (w.state.filters.get f).state = .cleaning) (he : ∀ r, (g r).state = r.state)
    (hd : ∀ r, (g r).dpActive = r.dpActive) (hr : ∀ r : FilterRecord, r.Ranged → (g r).Ranged) :
    Machine.Reacts a (w.state.updFilter f g) :=
  h.state.updRecord f
    (fun x => absurd x (h.state.not_still (State.not_still_of (by rw [h1]; decide) (by rw [h1]; decide)))) (he _) (hd _)
    (hr _)

theorem PassWork.Reacts.assign (h : w.Reacts a) (c : CircuitId) (b : Bool) {f : FilterId}
    (hf : (w.state.filters.get f).spare = true) : (w.assign c b f).Reacts a := by
  have e : (w.state.filters.get f).state = .standby := by
    simp only [FilterRecord.spare, Bool.and_eq_true, beq_iff_eq] at hf; exact hf.1
  exact ⟨h.move .joining rfl (by rw [e]; decide) (by rw [e]; decide) (fun _ => rfl) fun _ x => ⟨x.1, x.2, x.3, x.4⟩,
    h.plant⟩

/-- A fold of pass work. -/
theorem PassWork.Reacts.foldl {α : Type} {g : PassWork → α → PassWork}
    (hg : ∀ (w : PassWork) (x : α), w.Reacts a → (g w x).Reacts a) (l : List α) {w : PassWork} (h : w.Reacts a) :
    (l.foldl g w).Reacts a := by
  induction l generalizing w with
  | nil => exact h
  | cons x l ih => exact ih (hg w x h)

theorem PassWork.Reacts.meetMinimum (h : w.Reacts a) (c : CircuitId) : (w.meetMinimum c).Reacts a := by
  refine PassWork.Reacts.foldl (fun w f k => ?_) _ h
  split
  · next e => rw [Bool.and_eq_true] at e; exact k.assign c false e.1
  · exact k

theorem State.gift_serves {d : CircuitId} {f : FilterId} (h : s.gift d = some f) : (s.filters.get f).serves d = true := by
  have := List.find?_some h
  rw [State.servesAs, Bool.and_eq_true] at this
  exact this.1

/-- The filter a donor gives is a cover exactly where that alone is above its keep level. -/
theorem State.gift_cover {d : CircuitId} {f : FilterId} (h : s.gift d = some f) :
    (s.filters.get f).cover = s.onlyCoverAbove d := by
  have := List.find?_some h
  rw [State.servesAs, Bool.and_eq_true] at this
  exact eq_of_beq this.2

theorem FilterRecord.serves_state {r : FilterRecord} {c : CircuitId} (h : r.serves c = true) : r.state = .service := by
  simp only [FilterRecord.serves, Bool.and_eq_true, beq_iff_eq] at h; exact h.1

theorem PassWork.Reacts.transfer (h : w.Reacts a) (c : CircuitId) : (w.transfer c).Reacts a := by
  unfold PassWork.transfer
  split
  · split
    · exact h
    · split
      · exact h
      · next f e =>
        have k := FilterRecord.serves_state (State.gift_serves e)
        exact ⟨h.move .joining rfl (by rw [k]; decide) (by rw [k]; decide) (fun _ => rfl)
          fun _ x => ⟨x.1, x.2, x.3, x.4⟩, h.plant⟩
  · exact h

theorem PassWork.Reacts.unmark (h : w.Reacts a) (c : CircuitId) : (w.unmark c).Reacts a := by
  unfold PassWork.unmark
  split
  · split
    · exact h
    · next f e =>
      have k := List.find?_some e
      simp only [FilterRecord.markedFor, Bool.and_eq_true, beq_iff_eq] at k
      refine ⟨h.record (g := fun r => { r with releaseOnReturn := false }) k.1.1 ?_ ?_ ?_, h.plant⟩
      · exact fun _ => rfl
      · exact fun _ => rfl
      · exact fun _ x => ⟨x.1, x.2, x.3, x.4⟩
  · exact h

theorem PassWork.Reacts.meetWanted (h : w.Reacts a) (c : CircuitId) : (w.meetWanted c).Reacts a := by
  refine PassWork.Reacts.foldl (fun w f k => ?_) _ (h.unmark c)
  split
  · next e => rw [Bool.and_eq_true] at e; exact k.assign c false e.1
  · exact k

theorem PassWork.Reacts.bringCover (h : w.Reacts a) (c : CircuitId) : (w.bringCover c).Reacts a := by
  unfold PassWork.bringCover
  split
  · split
    · exact h
    · next f e => exact h.assign c true (List.find?_some (p := fun f => (w.state.filters.get f).spare) e)
  · exact h

theorem State.firstBy_some {l : List FilterId} {f : FilterId} (ps : List (FilterRecord → Bool))
    (h : s.firstBy l ps = some f) : ∃ p ∈ ps, p (s.filters.get f) = true := by
  induction ps with
  | nil => cases h
  | cons p ps ih =>
    unfold State.firstBy at h
    split at h
    · next g e => cases h; exact ⟨p, List.mem_cons_self, List.find?_some (p := fun f => p (s.filters.get f)) e⟩
    · obtain ⟨q, m, k⟩ := ih h
      exact ⟨q, List.mem_cons_of_mem _ m, k⟩

theorem State.nextRelease_state {c : CircuitId} {f : FilterId} (h : s.nextRelease c = some f) :
    (s.filters.get f).state = .service ∨ (s.filters.get f).state = .joining ∨ (s.filters.get f).state = .cleaning := by
  obtain ⟨p, m, k⟩ := State.firstBy_some _ h
  simp only [List.mem_cons, List.not_mem_nil, or_false] at m
  rcases m with rfl | rfl | rfl | rfl <;>
    simp only [FilterRecord.activeOn, FilterRecord.serves, Bool.and_eq_true, Bool.or_eq_true, beq_iff_eq] at k
  · exact k.1.1.imp id .inl
  · exact .inl k.1
  · exact .inr (.inl k.1)
  · exact .inr (.inr k.1.1)

theorem PassWork.Reacts.release (h : w.Reacts a) (c : CircuitId) : (w.release c).Reacts a := by
  unfold PassWork.release
  split
  · split
    · exact h
    · next f e =>
      unfold PassWork.releaseFilter
      split
      · next k =>
        refine ⟨h.record (g := fun r => { r with releaseOnReturn := true }) k ?_ ?_ ?_, h.plant⟩
        · exact fun _ => rfl
        · exact fun _ => rfl
        · exact fun _ x => ⟨x.1, x.2, x.3, x.4⟩
      · refine ⟨h.move .leaving rfl ?_ ?_ (fun _ => rfl) fun _ x => ⟨x.1, x.2, x.3, x.4⟩, h.plant⟩ <;>
          rcases State.nextRelease_state e with k | k | k <;> rw [k] <;> decide
  · exact h

theorem PassWork.Reacts.clearCover (h : w.Reacts a) (c : CircuitId) : (w.clearCover c).Reacts a := by
  unfold PassWork.clearCover
  split
  · exact h
  · exact ⟨h.state.loseCover (some c), by simpa using h.plant⟩

theorem Reacts.passSteps (h : Machine.Reacts a s) (hp : s.plant = .running) : s.passSteps.Reacts a := by
  have h0 : PassWork.Reacts a { state := s, changed := [], left := [] } := ⟨h, hp⟩
  exact PassWork.Reacts.foldl (fun _ c k => k.clearCover c) _
    (PassWork.Reacts.foldl (fun _ c k => PassWork.Reacts.foldl (fun _ _ k => k.release c) _ k) _
      (PassWork.Reacts.foldl (fun _ c k => k.bringCover c) _
        (PassWork.Reacts.foldl (fun _ c k => k.meetWanted c) _
          (PassWork.Reacts.foldl (fun _ c k => PassWork.Reacts.foldl (fun _ _ k => k.transfer c) _ k) _
            (PassWork.Reacts.foldl (fun _ c k => k.meetMinimum c) _ h0)))))

theorem Reacts.filePassTravel (h : Machine.Reacts a s) (f : FilterId) : Machine.Reacts a (s.filePassTravel f) := by
  unfold State.filePassTravel
  split
  · next e _ => exact h.fileTravel _ _ (h.not_still (State.not_still_of (by rw [e]; decide) (by rw [e]; decide)))
  · next e => exact h.fileTravel _ _ (h.not_still (State.not_still_of (by rw [e]; decide) (by rw [e]; decide)))
  · exact h

theorem Reacts.handOn (h : w.Reacts a) : Machine.Reacts a w.handOn :=
  Reacts.foldl (fun _ c k => k.post (.circuit c) .filterLeft) _
    (Reacts.foldl (fun _ f k => k.filePassTravel f) _ (Reacts.refreshReturn h.state))

/-- An allocation pass (01 R14). -/
theorem Reacts.takePass (h : Machine.Reacts a s) : Machine.Reacts a s.takePass := by
  unfold State.takePass
  split
  · next e =>
    rw [Bool.and_eq_true] at e
    exact (Reacts.handOn (h.passSteps (of_decide_eq_true e.1))).filterChanged
  · exact h

/-! ## The grant and the end of an event -/

/-- The grant of the Line (03 R61). -/
theorem Reacts.grant (h : Machine.Reacts a s) {e : QueueEntry} (hp : s.plant = .running)
    (he : ∃ x ∈ s.queue, x.filter = e.filter) : Machine.Reacts a (s.grant e) := by
  have hn : ¬ a.Still e.filter := h.not_still fun x => by
    obtain ⟨y, m, n⟩ := he
    exact x.3 y m n
  have k := (h.removeEntry e.filter).setClean (some ((s.setQueue (Machine.removeEntry s.queue e.filter)).newClean e))
    (fun x k => by cases k; exact .inr hn) (fun _ y => absurd (hp.symm.trans y) (by decide))
  have m := k.moveFilter (f := e.filter) .cleaning (g := fun r => { r with releaseOnReturn := false }) hn (fun _ => rfl)
    (fun _ x => ⟨x.1, x.2, x.3, x.4⟩) (fun _ => .inr fun x m => (mem_removeEntry m).2)
    (fun _ y => absurd (hp.symm.trans y) (by decide))
  exact (m.postTo _ _).fileTravel _ _ hn

theorem Reacts.tryGrant (h : Machine.Reacts a s) : Machine.Reacts a s.tryGrant := by
  unfold State.tryGrant
  split
  · next c =>
    split
    · exact h
    · next e k =>
      refine (h.withDue _).grant ?_ ⟨e, List.mem_of_find?_eq_some k, rfl⟩
      simp only [State.grantAllowed, Bool.and_eq_true, beq_iff_eq] at c
      exact c.1.1.1.1.1.1
  · exact h

theorem Reacts.settle (b : Bool) (n : Nat) (h : Machine.Reacts a s) : Machine.Reacts a (State.settle b n s) := by
  induction n generalizing s with
  | zero => exact h
  | succ n ih =>
    unfold State.settle
    split
    · refine ih ?_
      split
      · exact (h.withDue _).takePass
      · exact h.withDue _
    · split
      · exact ih (h.withDue _).evaluateQueue
      · split
        · exact ih (h.withDue _).tryGrant
        · exact h

/-- The end of an event is a reaction: it leaves the event's own effect as it was. -/
theorem Reacts.finishEvent (h : Machine.Reacts a s) : Machine.Reacts a s.finishEvent :=
  ((h.settle true _).settle false _).evalPaths.withDue _

/-! ## Quiet states -/

theorem State.evalPath_path (c d : CircuitId) :
    (s.evalPath c).pathOpen.get d = if d = c then s.hasPath c else s.pathOpen.get d := by
  unfold State.evalPath
  dsimp only
  split
  · next e =>
    split
    · next k => rw [k, e]
    · rfl
  · simp [State.post, PerCircuit.get_set]

theorem State.evalPath_filters (c : CircuitId) : (s.evalPath c).filters = s.filters := by
  unfold State.evalPath
  dsimp only
  split
  · rfl
  · simp [State.post]

theorem State.evalPath_hasPath (c d : CircuitId) : (s.evalPath c).hasPath d = s.hasPath d := by
  simp only [State.hasPath, State.evalPath_filters]

theorem State.evalPaths_paths (d : CircuitId) : s.evalPaths.pathOpen.get d = s.evalPaths.hasPath d := by
  unfold State.evalPaths
  simp only [allCircuits, List.foldl, State.evalPath_path, State.evalPath_hasPath]
  cases d <;> simp

/-- Every event ends quiet. -/
theorem State.finishEvent_quiet : s.finishEvent.Quiet where
  due := rfl
  paths c := State.evalPaths_paths (s := State.settle false _ (State.settle true _ s)) c

theorem State.Quiet.evalPath (h : s.Quiet) (c : CircuitId) : s.evalPath c = s := by
  unfold State.evalPath
  dsimp only
  rw [if_pos (h.paths c)]

theorem State.Quiet.settle (h : s.Quiet) (b : Bool) (n : Nat) : State.settle b n s = s := by
  cases n with
  | zero => rfl
  | succ n => unfold State.settle; rw [h.due]; rfl

/-- A quiet state owes nothing. -/
theorem State.Quiet.finishEvent (h : s.Quiet) : s.finishEvent = s := by
  unfold State.finishEvent
  dsimp only
  rw [h.settle, h.settle]
  have e : s.evalPaths = s := by
    unfold State.evalPaths
    simp only [allCircuits, List.foldl, h.evalPath]
  rw [e, ← h.due]

end Sys2Proof.Machine
end

