-- ==== Sys2Proof/Laws/Link.lean ====
section
/-! SUPPORT. Frames and requests (09, 10): what a request frame's bytes are read as, what hearing a frame can do, and the form
that every request's meaning has. -/

namespace Sys2Proof

/-! ## Frames -/

theorem xorBytes_append (a b : List Byte) : xorBytes (a ++ b) = xorBytes a ^^^ xorBytes b := by
  induction a with
  | nil => simp [xorBytes]
  | cons x a ih => simp [xorBytes, ih, BitVec.xor_assoc]

theorem xorBytes_check (a : List Byte) : xorBytes (a ++ [xorBytes a]) = 0#8 := by
  simp [xorBytes_append, xorBytes]

theorem Kind.code_ne_zero (k : Kind) : k.code ≠ 0#8 := by cases k <;> decide

@[simp] theorem kindOf_code (k : Kind) : kindOf k.code = some k := by cases k <;> rfl

theorem Kind.count_le (k : Kind) : k.count ≤ Config.maxParams := by cases k <;> decide

theorem requestBytes_length (kind : Byte) (ps : List Byte) : (requestBytes kind ps).length = ps.length + 3 := by
  simp [requestBytes]

theorem length_toNat {n : Nat} (h : n ≤ Config.maxParams) : (BitVec.ofNat 8 n).toNat = n := by
  rw [BitVec.toNat_ofNat]; exact Nat.mod_eq_of_lt (by simp only [Config.maxParams] at h; omega)

/-- A good request frame is read as its request (09 R171). -/
theorem readFrame_request {kind : Byte} {ps : List Byte} (hk : kind ≠ 0#8) (hn : ps.length ≤ Config.maxParams)
    (cut : Bool) : readFrame (requestBytes kind ps) cut = .request kind ps := by
  have e := length_toNat hn
  have x := xorBytes_check (kind :: BitVec.ofNat 8 ps.length :: ps)
  simp only [List.cons_append] at x
  simp only [requestBytes, List.cons_append, readFrame, if_neg hk, e, if_neg (Nat.not_lt.2 hn)]
  have l : (ps ++ [xorBytes (kind :: BitVec.ofNat 8 ps.length :: ps)]).length = ps.length + 1 := by simp
  rw [if_neg (by omega), List.take_of_length_le (by omega), if_pos x]
  simp

namespace Machine

variable {a s : State}

/-! ## Hearing a frame -/

theorem State.formUnconfirmed_ports (s : State) (c : CircuitId) (p : PortId) :
    (s.ports.get p).Kept ((s.formUnconfirmed c).ports.get p) :=
  State.formDose_port_kept ..

/-- A heard event keeps what every port has queued (08 R160). -/
theorem State.heardFrom_port (s : State) (c : CircuitId) (q : PortId) :
    (s.ports.get q).Kept ((s.heardFrom c).ports.get q) := by
  unfold State.heardFrom
  dsimp only
  split
  · exact .refl _
  · generalize e : (s.updCircuit c _) = u
    have k := (Reacts.refl (u.formUnconfirmed c)).filterChanged.finishEvent.undisturbed.ports q
    have m := u.formUnconfirmed_ports c q
    rw [← e] at m ⊢
    rw [← e] at k
    exact Port.Kept.trans m k

theorem State.hear_port (s : State) (p q : PortId) (bs : List Byte) :
    (s.ports.get q).Kept ((s.hear p bs).ports.get q) := by
  unfold State.hear
  split
  · exact s.heardFrom_port _ q
  · exact .refl _
  · exact .refl _

/-- A heard frame leaves the responses that wait as they are. -/
theorem State.heard_room {p q : PortId} (h : s.Room q) : (s.heard p).Room q := by
  unfold State.Room State.heard
  rw [(s.hear_port p q _).responses]
  exact h

theorem State.Quiet.of_eq {s t : State} (h : s.Quiet) (e1 : t.due = s.due) (e2 : t.pathOpen = s.pathOpen)
    (e3 : t.filters = s.filters) : t.Quiet where
  due := by rw [e1]; exact h.due
  paths c := by rw [State.hasPath, e2, e3]; exact h.paths c

/-- A heard frame leaves a quiet state quiet. -/
theorem State.Quiet.heard (h : s.Quiet) (p : PortId) : (s.heard p).Quiet := by
  unfold State.heard State.hear
  split
  · unfold State.heardFrom
    dsimp only
    split
    · exact h.of_eq rfl rfl rfl
    · exact State.finishEvent_quiet
  · exact h
  · exact h

theorem State.Quiet.updPort (h : s.Quiet) (p : PortId) (g : Port → Port) : (s.updPort p g).Quiet :=
  h.of_eq rfl rfl rfl

/-- A heard frame forms UNCONFIRMED with the attendance, so that the interlock law stands (07 R148). -/
theorem State.InterlockLaw.heard (h : s.InterlockLaw) (p : PortId) : (s.heard p).InterlockLaw := by
  unfold State.heard State.hear
  split
  · next c _ _ _ =>
    unfold State.heardFrom
    dsimp only
    split
    · next e =>
      intro d
      rw [State.updCircuit_doses, h d]
      simp only [State.trueReasons, State.flowProven, State.updCircuit_pathOpen, State.updCircuit_flow,
        State.updCircuit_stopActive, State.updCircuit_bulkLow, State.updCircuit_plant, State.updCircuit_circuits,
        PerCircuit.get_set]
      split
      · next k => subst k; rfl
      · rfl
    · refine ((Reacts.refl _).filterChanged.finishEvent).interlocks fun d => ?_
      unfold State.formUnconfirmed
      rw [State.formReasons_reasons, State.updCircuit_doses]
      simp only [State.trueReasons, State.flowProven, State.formReasons_pathOpen, State.formReasons_flow,
        State.formReasons_stopActive, State.formReasons_bulkLow, State.formReasons_plant, State.formReasons_circuits,
        State.updCircuit_pathOpen, State.updCircuit_flow, State.updCircuit_stopActive, State.updCircuit_bulkLow,
        State.updCircuit_plant, State.updCircuit_circuits, PerCircuit.get_set]
      split
      · next k => subst k; rw [h]; rfl
      · next k => rw [h d]; rfl
  · exact h
  · exact h

/-! ## Taking a request -/

/-- Recording a frame on both sides leaves the rest undisturbed. -/
theorem State.Undisturbed.record {s t : State} (h : s.Undisturbed t) (p : PortId) (x : FrameTrace) :
    (s.record p x).Undisturbed (t.record p x) :=
  { h with
    ports := by
      intro q
      simp only [State.record, State.updPort_ports, PerPort.get_set]
      split
      · next e =>
        subst e
        have k := h.ports q
        exact ⟨k.responses, k.mask, rfl, k.linkError, k.notices⟩
      · exact h.ports q }

theorem exec_command (k : Kind) (p : PortId) (ps : List Byte) (s : State) :
    exec (k.command p ps) s = .next (s.receiveFrame p (requestBytes k.code ps) false) := by
  cases k <;> rfl

theorem State.hear_cons (s : State) (p : PortId) (b c : Byte) (bs cs : List Byte) :
    s.hear p (b :: bs) = s.hear p (c :: cs) := by
  cases p <;> rfl

/-- The trace that a good request frame leaves (09 R171). -/
theorem requestTrace_good (status kind : Byte) {ps : List Byte} (hn : ps.length ≤ Config.maxParams) :
    requestTrace .request (requestBytes kind ps) status = goodTrace status kind ps.length := by
  have l := requestBytes_length kind ps
  have x := xorBytes_check (kind :: BitVec.ofNat 8 ps.length :: ps)
  have g : (requestBytes kind ps).getD 1 0#8 = BitVec.ofNat 8 ps.length := rfl
  have d : (requestBytes kind ps).headD 0#8 = kind := rfl
  unfold requestTrace goodTrace requestOut
  rw [g, d, l, length_toNat hn, List.take_of_length_le (by omega)]
  have y : xorBytes (requestBytes kind ps) = 0#8 := x
  rw [y, List.take_succ_cons]
  simp

/-- A good request frame: its bytes are heard, the request is taken, and the trace is kept. -/
theorem receiveFrame_request {kind : Byte} {ps : List Byte} (hk : kind ≠ 0#8) (hn : ps.length ≤ Config.maxParams)
    (p : PortId) : s.receiveFrame p (requestBytes kind ps) false =
      ((s.heard p).takeRequest p kind ps).record p (goodTrace (s.statusByte p) kind ps.length) := by
  have e : s.hear p (requestBytes kind ps) = s.heard p := State.hear_cons ..
  simp only [State.receiveFrame, readFrame_request hk hn, requestTrace_good _ _ hn, e]

theorem State.respond_eq (u : State) (p : PortId) (status kind : Byte) (n : Nat) (st : Status) (ps : List Byte) :
    (u.updPort p fun q => q.enqueue { kind := kind, status := st, params := ps }).record p (goodTrace status kind n) =
      u.respond p status kind n st ps := by
  unfold State.record State.respond State.updPort
  congr 1
  refine PerPort.ext_get fun q => ?_
  simp only [PerPort.get_set]
  split <;> simp_all [Port.enqueue]

/-- A request whose effect owes nothing more: the response is queued and the frame recorded, and nothing else follows. -/
theorem exec_request_quiet {k : Kind} {p : PortId} {ps : List Byte} (hn : ps.length ≤ Config.maxParams)
    (hr : s.Room p) (hq : ((s.heard p).answer p k.code ps).state.Quiet) :
    exec (k.command p ps) s = .next (((s.heard p).answer p k.code ps).state.respond p (s.statusByte p) k.code ps.length
      ((s.heard p).answer p k.code ps).status ((s.heard p).answer p k.code ps).params) := by
  rw [exec_command, receiveFrame_request k.code_ne_zero hn]
  unfold State.takeRequest
  dsimp only
  rw [if_neg (Nat.not_le.2 (State.heard_room hr)), State.Quiet.finishEvent (hq.updPort _ _), State.respond_eq]

/-- What a request leaves is what its answer leaves with the response queued, and what the reactions of the event make of
it. -/
theorem exec_request {k : Kind} {p : PortId} {ps : List Byte} (hn : ps.length ≤ Config.maxParams) (hr : s.Room p) :
    ∃ t, exec (k.command p ps) s = .next t ∧
      (((s.heard p).answer p k.code ps).state.respond p (s.statusByte p) k.code ps.length
        ((s.heard p).answer p k.code ps).status ((s.heard p).answer p k.code ps).params).Undisturbed t := by
  refine ⟨_, by rw [exec_command, receiveFrame_request k.code_ne_zero hn], ?_⟩
  unfold State.takeRequest
  dsimp only
  rw [if_neg (Nat.not_le.2 (State.heard_room hr)), ← State.respond_eq]
  exact ((Reacts.refl _).finishEvent.undisturbed).record _ _

end Machine

end Sys2Proof
end

