-- ==== Sys2Proof/Tests/Slice0.lean ====
section
/-! SUPPORT. Own tests: the checks of `WellFormed`, steps of the manual's worked examples, and for each obligation with
hypotheses a state and operands that meet them, clause by clause, at the boundary of each range. -/

namespace Sys2Proof.Tests

open Sys2Proof Sys2Proof.Machine

/-! ## Helpers -/

/-- A filter in SERVICE on a circuit. -/
def inService (c : CircuitId) : FilterRecord :=
  { FilterRecord.reset with state := .service, circuit := some c, minuteTimer := true, recheckTimer := true }

/-- A filter in another state, with no circuit. -/
def inState (x : FilterState) : FilterRecord :=
  { FilterRecord.reset with state := x }

/-- A selector at rest on a stop. -/
def restingAt (k : Stop) : Channel :=
  { Channel.reset with state := .idle, position := some k.position, seated := true, detent := true, dir := some .cw }

/-- A selector MOVING clockwise from a position towards a stop. -/
def movingFrom (p : Nat) : Channel :=
  { Channel.reset with state := .moving, position := some p, dir := some .cw, dirOut := true, speed := 100 }

/-- A selector on its homing travel. -/
def homingIn (h : HomingPhase) : Channel :=
  { Channel.reset with state := .moving, homing := some h, dir := some .cw, dirOut := true, speed := 100 }

/-- A circuit that dosed and is attended. -/
def dosing (wanted minimum : Nat) : CircuitRecord :=
  { wanted := wanted, minimum := minimum, mode := .openPool, demand := 150, confirmed := true, attended := true,
    silence := some 30 }

/-- The state with its path states, its interlock reasons and its entries' eligibility formed. -/
def settled (s : State) : State :=
  let t := { s with pathOpen := ⟨s.hasPath .A, s.hasPath .B, s.hasPath .C, s.hasPath .D⟩ }
  let dose := fun c => { t.doses.get c with reasons := t.trueReasons c }
  { t with doses := ⟨dose .A, dose .B, dose .C, dose .D⟩,
           queue := t.queue.map fun e => { e with eligibility := t.eligibilityOf e.filter } }

/-- A plant RUNNING: filters 1 and 2 serve A, 3 serves B, 4 is STANDBY, 5 is OUT_OF_USE and 6 is in FAULT. -/
def plant : State :=
  settled { State.reset with
    plant := .running, stopActive := false, stopRead := true, bulkLow := false
    waste := { allowance := 12000, lowLow := false, bwStart := true }
    filters := ⟨inService .A, inService .A, inService .B, inState .standby, inState .outOfUse,
      { inState .fault with faultKind := some .jammed }⟩
    channels := ⟨restingAt (.circuit .A), restingAt (.circuit .A), restingAt (.circuit .B), restingAt .closed,
      restingAt .park, { Channel.reset with state := .faulted }⟩
    circuits := ⟨dosing 2 1, dosing 1 0, CircuitRecord.reset, CircuitRecord.reset⟩
    flow := PerCircuit.set (PerCircuit.all FlowRecord.reset) .A { FlowRecord.reset with proofTimer := some 10 } }

/-- The plant with plant stop active. -/
def stopped : State :=
  settled { plant with stopActive := true }

/-- The plant held by a surge in mode PAUSE. -/
def surging : State :=
  { plant with surge := true, settings := { Settings.default with surgeMode := .pause } }

/-- The plant in SETUP right after power-on, with the first reading of PSTOP taken. -/
def setup : State :=
  settled { State.reset with stopActive := false, stopRead := true }

/-- An entry for a filter. -/
def entry (f : FilterId) (r : Reasons) : QueueEntry :=
  { filter := f, reasons := r, eligibility := .eligible }

/-- A state with a queue, settled. -/
def queued (s : State) (q : List QueueEntry) : State :=
  settled { s with queue := q }

/-- A Line record for filter 2, which was granted from circuit A. -/
def clean (p : Phase) : LineRecord :=
  { filter := .f2, startCircuit := some .A, reasons := { throughput := true }, phase := p, heldPhase := none,
    counted := 0, phaseTimer := .stopped, flowTimer := .stopped, suspendTimer := none, wetted := false, outcome := .none,
    exitUnrinsed := false, abortPending := false, requeue := false, returnTarget := .circuit .A }

/-- Filter 2 CLEANING with a Line record. -/
def cleaning (s : State) (r : LineRecord) : State :=
  settled { s with
    filters := s.filters.set .f2 { inState .cleaning with circuit := some .A }
    line := { available := true, pump := false, clean := some r }
    channels := s.channels.set .f2 (restingAt (if r.phase = .rinseRun then .rinse else .backwash)) }

/-- One filter with its record, its channel and its request replaced. -/
def withFilter (s : State) (f : FilterId) (x : FilterRecord) (ch : Channel) (r : Option TravelRequest) : State :=
  settled { s with
    filters := s.filters.set f x, channels := s.channels.set f ch, requests := s.requests.set f r
    slots := { first := r.map fun _ => f, second := none } }

/-- An ACTIVE request of the Filter Table. -/
def bound (k : Stop) : Option TravelRequest :=
  some { target := k, requester := .allocator, active := true }

/-- Filter 2 CLEANING with its selector on the Line's travel to a stop. -/
def onLine (s : State) (r : LineRecord) (ch : Channel) (k : Stop) : State :=
  let t := cleaning s r
  settled { t with
    channels := t.channels.set .f2 ch
    requests := t.requests.set .f2 (some { target := k, requester := .backwashLine, active := true })
    slots := { first := some .f2, second := none } }

/-- A selector that settles over a stop, its detent open. -/
def settlingAt (k : Stop) : Channel :=
  { restingAt k with state := .settling, seated := false, detent := false, settleStop := some k, settleTimer := some 500 }

/-- The plant with BACKWASH_RUN on: filter 2 at stop 5 and the pump running. -/
def washing : State :=
  let s := cleaning plant { clean .backwashRun with phaseTimer := .running 10, flowTimer := .running }
  { s with line := { s.line with pump := true } }

/-- The one answer of a command, for tests on its state. -/
def after (c : Instr) (s : State) (test : State → Bool) : Bool :=
  match exec c s with
  | .next t => test t
  | .fault _ | .refused _ => false

/-- The responses queued at a port after a command. -/
def answers (c : Instr) (s : State) (p : PortId) : List (Byte × Status × List Byte) :=
  match exec c s with
  | .next t => (t.ports.get p).responses.map fun r => (r.kind, r.status, r.params)
  | .fault _ | .refused _ => []

theorem quiet_iff (s : State) : s.Quiet ↔ s.due = Due.none ∧ s.pathOpen.A = s.hasPath .A ∧
    s.pathOpen.B = s.hasPath .B ∧ s.pathOpen.C = s.hasPath .C ∧ s.pathOpen.D = s.hasPath .D :=
  ⟨fun h => ⟨h.due, h.paths .A, h.paths .B, h.paths .C, h.paths .D⟩,
   fun ⟨h, a, b, c, d⟩ => ⟨h, fun k => match k with | .A => a | .B => b | .C => c | .D => d⟩⟩

theorem circuits_iff (P : CircuitId → Prop) : (∀ c, P c) ↔ P .A ∧ P .B ∧ P .C ∧ P .D :=
  ⟨fun h => ⟨h _, h _, h _, h _⟩, fun ⟨a, b, c, d⟩ k => match k with | .A => a | .B => b | .C => c | .D => d⟩

theorem filters_iff (P : FilterId → Prop) : (∀ f, P f) ↔ P .f1 ∧ P .f2 ∧ P .f3 ∧ P .f4 ∧ P .f5 ∧ P .f6 :=
  ⟨fun h => ⟨h _, h _, h _, h _, h _, h _⟩,
   fun ⟨a, b, c, d, e, g⟩ k => match k with | .f1 => a | .f2 => b | .f3 => c | .f4 => d | .f5 => e | .f6 => g⟩

theorem interlock_iff (s : State) : s.InterlockLaw ↔ s.doses.A.reasons = s.trueReasons .A ∧
    s.doses.B.reasons = s.trueReasons .B ∧ s.doses.C.reasons = s.trueReasons .C ∧ s.doses.D.reasons = s.trueReasons .D :=
  circuits_iff _

theorem mustWait_iff (s : State) (f : FilterId) (k : Stop) : s.MustWait f k ↔ s.requests.get f = none ∧
    ((s.channels.get f).position.any fun p => p != k.position) = true ∧
    (s.slots.hasFree = false ∨ s.pauseCondition = true) := by
  constructor
  · rintro ⟨h, ⟨p, hp, hn⟩, w⟩
    exact ⟨h, by simp [hp, hn], w⟩
  · rintro ⟨h, e, w⟩
    cases hp : (s.channels.get f).position with
    | none => simp [hp] at e
    | some p => exact ⟨h, ⟨p, hp, by simpa [hp] using e⟩, w⟩

theorem queueLaw_iff (s : State) : s.QueueLaw ↔ (∀ e ∈ s.queue, (s.filters.get e.filter).state.mayQueue = true) ∧
    (s.queue.map QueueEntry.filter).Nodup ∧ s.queue.Pairwise fun a b => b.urgent = true → a.urgent = true :=
  ⟨fun h => ⟨h.states, h.distinct, h.order⟩, fun ⟨a, b, c⟩ => ⟨a, b, c⟩⟩

theorem seatedAt_iff (ch : Channel) (k : Stop) : ch.SeatedAt k ↔
    ch.state = .idle ∧ ch.position = some k.position ∧ ch.seated = true ∧ ch.detent = true :=
  ⟨fun h => ⟨h.state, h.position, h.seated, h.detent⟩, fun ⟨a, b, c, d⟩ => ⟨a, b, c, d⟩⟩

/-! ## The checks of `WellFormed` -/

/-- A FETCH frame has its first byte (09 R169). -/
theorem test_fetch_of_no_byte_is_refused : (Instr.fetch .plant 0).wellFormed = false := by decide

/-- The frame of 09 section 9.9 event 1 is good, so it is no LINK_ERROR. -/
theorem test_link_error_of_a_good_frame_is_refused :
    (Instr.linkError .plant [0x23#8, 3#8, 2#8, 0#8, 0xB4#8, 0x96#8] false).wellFormed = false := by decide

theorem test_unknown_request_of_a_known_kind_is_refused :
    (Instr.unknownRequest .plant 0x23#8 []).wellFormed = false ∧ (Instr.unknownRequest .plant 0#8 []).wellFormed = false ∧
    (Instr.unknownRequest .plant 0x99#8 (List.replicate 25 0#8)).wellFormed = false := by decide

theorem test_request_of_25_parameters_is_refused :
    (Instr.ping .plant (List.replicate 25 0#8)).wellFormed = false ∧
    (Instr.ping .plant (List.replicate 24 0#8)).wellFormed = true := by decide

/-! ## Frames and ports: 09 section 9.9, 10 section 10.8 -/

/-- The bytes of SET_DOSE(B, 180) and of its response. -/
theorem test_frame_bytes : requestBytes 0x23#8 [2#8, 0#8, 0xB4#8] = [0x23#8, 3#8, 2#8, 0#8, 0xB4#8, 0x96#8] ∧
    readFrame [0x23#8, 3#8, 2#8, 0#8, 0xB4#8, 0x96#8] false = .request 0x23#8 [2#8, 0#8, 0xB4#8] ∧
    Response.bytes { kind := 0x23#8, status := .done, params := [2#8, 0#8, 0xB4#8] } =
      [0x23#8, 0#8, 3#8, 2#8, 0#8, 0xB4#8, 0x96#8] := by decide

/-- Port B of 09 section 9.9 after event 1. -/
def busy : State :=
  plant.updPort (.circuit .B) fun q =>
    { q with responses := [{ kind := 0x23#8, status := .done, params := [2#8, 0#8, 0xB4#8] }] }

/-- The status bytes of events 1 and 2. -/
theorem test_status_byte : plant.statusByte (.circuit .B) = 0x50#8 ∧ busy.statusByte (.circuit .B) = 0x55#8 := by decide

/-- Event 5: the whole response goes out and leaves the queue; a frame one byte shorter leaves it there (event 4). -/
theorem test_fetch : after (.fetch (.circuit .B) 8) busy (fun t =>
      (t.ports.get (.circuit .B)).frame.out == [0x55#8, 0x23#8, 0#8, 3#8, 2#8, 0#8, 0xB4#8, 0x96#8] &&
      (t.ports.get (.circuit .B)).responses == []) = true ∧
    after (.fetch (.circuit .B) 7) busy (fun t => (t.ports.get (.circuit .B)).responses.length == 1) = true := by decide

/-- Event 7: REQUEST_DROPPED and LINK_ERROR of kind CHECK are read and cleared. -/
theorem test_read_notices :
    let s := ((busy.post (.circuit .B) .requestDropped).postLinkError (.circuit .B) .check)
    after (.readNotices (.circuit .B) []) s (fun t => (t.ports.get (.circuit .B)).notices == 0#24 &&
      ((t.ports.get (.circuit .B)).responses.getLast?.map Response.params) == some [0x0C#8, 0#8, 0#8, 2#8, 0#8]) = true := by
  decide

/-- The plant of 10 section 10.8: HOMING, with circuit A OPEN. -/
def homingPlant : State :=
  { setup with plant := .homing, circuits := setup.circuits.set .A (dosing 0 0) }

/-- The nine lines of the table of 10 section 10.8. -/
theorem test_checks_answer :
    answers (.unknownRequest (.circuit .A) 0x99#8 [0#8, 0#8, 0#8, 0#8, 0#8]) homingPlant (.circuit .A) =
      [(0x99#8, .refusedUnknown, [])] ∧
    answers (.startPlant (.circuit .B) []) homingPlant (.circuit .B) = [(0x71#8, .notYours, [])] ∧
    answers (.setDose .plant [1#8, 2#8]) homingPlant .plant = [(0x23#8, .refusedRange, [])] ∧
    answers (.takeOutOfUse .plant [9#8]) homingPlant .plant = [(0x73#8, .refusedState, [])] ∧
    answers (.setDemand (.circuit .A) [5#8, 0#8, 0#8]) homingPlant (.circuit .A) = [(0x21#8, .refusedRange, [])] ∧
    answers (.setDemand (.circuit .A) [2#8, 0#8, 0#8]) homingPlant (.circuit .A) = [(0x21#8, .notYours, [])] ∧
    (answers (.readCircuit (.circuit .A) [2#8]) homingPlant (.circuit .A)).map (fun r => r.2.1) = [.done] ∧
    answers (.setDose (.circuit .A) [1#8, 7#8, 0xD0#8]) homingPlant (.circuit .A) =
      [(0x23#8, .clamped, [1#8, 1#8, 0x2C#8])] ∧
    answers (.purgeEntry .plant [3#8]) homingPlant .plant = [(0x76#8, .refusedState, [])] := by
  refine ⟨?_, ?_, ?_, ?_, ?_, ?_, ?_, ?_, ?_⟩ <;> decide

/-! ## Flow and credit: 02 section 2.10 -/

/-- Filters 1, 2 and 6 serve A, with the throughputs of the example and the credit pointer as given. -/
def credited (pointer : FilterId) : State :=
  settled { plant with
    filters := ⟨{ inService .A with throughput := 500000 }, { inService .A with throughput := 799990 }, inState .outOfUse,
      inState .outOfUse, inState .outOfUse, { inService .A with throughput := 120000 }⟩
    creditPointer := PerCircuit.all pointer
    circuits := plant.circuits.set .A (dosing 3 1) }

theorem test_pulse_credits_the_next_filter : after (.flowPulse .A) (credited .f6) (fun t =>
    t.creditPointer.A == .f1 && t.filters.f1.throughput == 500010 && t.filters.f2.throughput == 799990) = true := by
  decide

theorem test_pulse_crosses_the_limit : after (.flowPulse .A) (credited .f1) (fun t =>
    t.creditPointer.A == .f2 && t.filters.f2.throughput == 800000) = true ∧
    after (.flowPulse .A) { credited .f1 with stopActive := true } (fun t => t.queue.map QueueEntry.filter == [.f2]) =
      true := by decide +kernel

/-- A full ring of 700 pulses at 100 litres reads 65,535, and 30 pulses in each of five bins at 10 read 1,500. -/
theorem test_rate :
    let ring := fun (l : Nat) (bins : List Nat) => { plant with
      settings := { Settings.default with litresPerFlowPulse := PerCircuit.all l }
      flow := PerCircuit.all { FlowRecord.reset with closedBins := bins } }
    field ((ring 100 [100, 100, 100, 100, 100, 100, 100, 0, 0]).circuitReport .B) 8 2 = 65535 ∧
    field ((ring 10 [30, 30, 30, 30, 30, 0, 0, 0, 0]).circuitReport .B) 8 2 = 1500 := by decide

/-! ## Dosing: 07 sections 7.8 to 7.12 -/

/-- Pulse 21 of 7.8 owes and starts a stroke; the first pulse only accumulates. -/
theorem test_pulse_21_starts_a_stroke :
    after (.flowPulse .A) (plant.updDose .A fun d => { d with accumulator := 30000 }) (fun t =>
      t.doses.A.accumulator == 250 && t.doses.A.owed == 0 && t.doses.A.stroke && t.doses.A.pacing == some 500) = true ∧
    after (.flowPulse .A) plant (fun t => t.doses.A.accumulator == 1500 && !t.doses.A.stroke) = true := by decide +kernel

/-- Pulse 21 of 7.9 is clamped: 31,499 to 31,249, with one shortfall. -/
theorem test_pulse_saturates :
    after (.flowPulse .A) (plant.updDose .A fun d => { d with accumulator := 29999, owed := 8, pacing := some 6000 })
      (fun t => t.doses.A.accumulator == 31249 && t.doses.A.owed == 8 && t.doses.A.shortfall == 1 &&
        (t.ports.get (.circuit .A)).hasNotice .doseSaturated) = true := by decide +kernel

/-- 7.12: STROKE_VOLUME of D falls to 200, and the accumulator of 28,000 to 24,999; at 300 it stands. -/
theorem test_stroke_volume_clamps :
    let s := plant.updDose .D fun d => { d with accumulator := 28000, owed := 2 }
    after (.writeSetting .plant [0x43#8, 0#8, 0#8, 0#8, 200#8]) s (fun t =>
      t.doses.D.accumulator == 24999 && t.doses.D.owed == 2 && t.doses.D.shortfall == 0) = true ∧
    after (.writeSetting .plant [0x43#8, 0#8, 0#8, 1#8, 44#8]) s (fun t => t.doses.D.accumulator == 28000) = true := by
  decide

/-- 7.11: a silent controller loses its accumulator. -/
theorem test_silence_clears_the_accumulator :
    after (.silenceTimerExpiry .A) (plant.updDose .A fun d => { d with accumulator := 24000 }) (fun t =>
      t.doses.A.accumulator == 0 && t.doses.A.reasons.unconfirmed &&
      (t.ports.get (.circuit .A)).hasNotice .doseInterlocked && (t.ports.get .plant).hasNotice .unattended) = true := by
  decide +kernel

/-! ## Travel: 05 sections 5.9 and 5.10, 06 sections 6.9 to 6.11 -/

/-- The braking estimates worked out in 5.9, and others of its table. -/
theorem test_braking_estimates :
    let b := Settings.default.profile.brakingSteps 20
    b 200 = 35 ∧ b 800 = 219 ∧ b 590 = 109 ∧ b 100 = 20 ∧ b 110 = 21 ∧ b 530 = 93 := by decide +kernel

/-- Filter 4 bound for stop 2 as in 5.9, at one position, speed and residue. -/
def profiled (p v f : Nat) : State :=
  withFilter plant .f4 { inState .joining with circuit := some .B }
    { movingFrom p with speed := v, residue := f } (bound (.circuit .B))

/-- Interval 35 of 5.9 brakes from 590 to 570 and emits 6 steps; interval 34 still speeds up. -/
theorem test_interval_35_brakes :
    after (.profileInterval .f4) (profiled 299 590 50) (fun t =>
      t.channels.f4.speed == 570 && t.channels.f4.position == some 305 && t.channels.f4.residue == 20) = true ∧
    after (.profileInterval .f4) (profiled 293 570 60) (fun t =>
      t.channels.f4.speed == 590 && t.channels.f4.position == some 299 && t.channels.f4.residue == 50) = true := by
  decide +kernel

/-- Interval 75 of 5.9 ends the travel in SETTLING at 400. -/
theorem test_interval_75_settles : after (.profileInterval .f4) (profiled 399 100 10) (fun t =>
    t.channels.f4.state == .settling && t.channels.f4.position == some 400 && t.channels.f4.speed == 0) = true := by
  decide +kernel

/-- The dwell at 608 of 5.10 ends in a start counter-clockwise. -/
theorem test_dwell_turns_back :
    let s := withFilter plant .f4 { inState .joining with circuit := some .C }
      { movingFrom 608 with state := .dwell, speed := 0 } (bound (.circuit .C))
    after (.dwellExpiry .f4) s (fun t => t.channels.f4.state == .moving && t.channels.f4.dir == some .ccw &&
      t.channels.f4.speed == 100 && t.channels.f4.creep == 4 && !t.channels.f4.dirOut) = true := by decide +kernel

/-- 6.9: the rise is confirmed 2 steps after the raw edge, and the count becomes 1597. -/
theorem test_homing_edge_sets_the_count :
    let s := withFilter plant .f4 (inState .homing)
      { homingIn .search with search := 1589, edge := some { position := none, dir := .cw, rising := true, steps := 2 } }
      (some { target := .closed, requester := .homing, active := true })
    after (.homeEdgeConfirmed .f4 true) s (fun t => t.channels.f4.homing == some .approach &&
      t.channels.f4.position == some 1597 && t.channels.f4.state == .moving) = true := by decide +kernel

/-- A fall of the flag that begins and confirms while the channel is PAUSED in CLEAR ends the phase (06 R127, R129). -/
theorem test_paused_fall_ends_clear :
    let s := withFilter plant .f4 (inState .homing) { homingIn .clear with state := .paused, speed := 0, search := 90 }
      (some { target := .closed, requester := .homing, active := true })
    after (.homeEdgeRaw .f4 false) s (fun t => t.channels.f4.edge.any fun e => !e.rising) = true ∧
    after (.homeEdgeConfirmed .f4 false) s (fun t => t.channels.f4.homing == some .search && t.channels.f4.search == 0) =
      true := by decide +kernel

/-- A fall's hold at the limit of CLEAR, ended by a rise: the failure or the raw rise, whichever comes first, ends the
travel (06 R127, log entry 40). A fall in the hold of a rise has its own record. -/
theorem test_rise_in_the_hold_of_a_fall :
    let s := fun rising => withFilter plant .f4 (inState .homing)
      { homingIn .clear with search := 1700, edge := some { position := none, dir := .cw, rising := rising, steps := 3 } }
      (some { target := .closed, requester := .homing, active := true })
    let lost := fun (t : State) => t.filters.f4.faultKind == some .homeNotFound && t.channels.f4.pulses == 0
    after (.homeEdgeHoldFails .f4) (s false) lost = true ∧
    after (.homeEdgeRaw .f4 true) (s false) lost = true ∧
    after (.homeEdgeConfirmed .f4 true) (s false) lost = true ∧
    after (.homeEdgeRaw .f4 false) (s true) (fun t => t.channels.f4.edge.any fun e => !e.rising) = true := by
  decide +kernel

/-- SLOW_HOLD latches an ordinary travel (05 R112) and leaves a homing one as it is (06 R129). -/
theorem test_slow_hold_leaves_a_homing :
    let s := fun c => { withFilter plant .f4 (inState .homing) c
      (some { target := .closed, requester := .homing, active := true }) with
      surge := true, settings := { Settings.default with surgeMode := .slowHold } }
    after (.profileInterval .f4) (s (homingIn .search)) (fun t => !t.channels.f4.slowLatch && t.channels.f4.search == 1) =
      true ∧
    after (.profileInterval .f4) (s { homingIn .approach with position := some 1598 }) (fun t =>
      !t.channels.f4.slowLatch && t.channels.f4.position == some 1599) = true ∧
    after (.profileInterval .f4) (s (movingFrom 1300)) (fun t => t.channels.f4.slowLatch) = true := by decide +kernel

/-- Filter 5 of 6.10 two steps after an edge at a count. -/
def edged (recorded : Nat) : State :=
  withFilter plant .f5 { inState .joining with circuit := some .A }
    { movingFrom (recorded + 2) with edge := some { position := some recorded, dir := .cw, rising := true, steps := 2 } }
    (bound (.circuit .A))

/-- A drift of −4 is corrected; one of −12 is POSITION_LOST. -/
theorem test_edge_drift :
    after (.homeEdgeConfirmed .f5 true) (edged 7) (fun t => t.filters.f5.state == .fault &&
      t.filters.f5.faultKind == some .positionLost && t.channels.f5.position == none &&
      (t.ports.get .plant).hasNotice .filterFault) = true ∧
    after (.homeEdgeConfirmed .f5 true) ((edged 1599).updChannel .f5 fun ch => { ch with position := some 1 }) (fun t =>
      t.channels.f5.position == some 1597 && t.channels.f5.state == .moving) = true := by decide +kernel

/-- 6.11: the CW switch trips at count 340. -/
theorem test_torque_trip_jams :
    let s := withFilter plant .f2 { inState .joining with circuit := some .C } (movingFrom 340) (bound (.circuit .C))
    after (.torqueTrip .f2 .cw true) s (fun t => t.channels.f2.state == .faulted && t.channels.f2.position == some 340 &&
      t.filters.f2.state == .fault && t.filters.f2.faultKind == some .jammed && t.requests.f2 == none) = true := by
  decide +kernel

/-- 6.11: the parking from 340 goes CCW, so it dwells first. -/
theorem test_parking_dwells :
    let s := withFilter plant .f2 { inState .fault with faultKind := some .jammed }
      { movingFrom 340 with state := .faulted, speed := 0, cwTorque := true } none
    after (.takeOutOfUse .plant [2#8]) s (fun t => t.filters.f2.state == .parking && t.channels.f2.state == .dwell) =
      true := by decide +kernel

/-! ## The meter levels (02 R27) -/

/-- A level falls where its mark says so, and a low one stays low; a second pulse finds the level high and takes it there
again. -/
theorem test_meter_levels_fall :
    ({ circuits := ⟨true, true, false, false⟩, waste := true } : Meters).fall (fun c => c == .B || c == .C) true =
      { circuits := ⟨true, false, false, false⟩, waste := false } ∧
    State.reset.idle = State.reset ∧
    after (.flowPulse .A) (plant.raiseFlowMeter .A) (fun t => t.meters.circuits.A && t.flow.A.openBin == 1) = true := by
  decide +kernel

/-! ## The bank, the queue and the Line: 01 section 1.8, 03 sections 3.9 and 3.10, 04 section 4.10 -/

/-- The circuit records of 1.8. -/
def demands : PerCircuit CircuitRecord :=
  ⟨dosing 2 2, dosing 2 1, dosing 1 1, { CircuitRecord.reset with attended := true }⟩

/-- The state and circuit of each filter, in order. -/
def bankOf (s : State) : List (FilterState × Option CircuitId) :=
  allFilters.map fun f => ((s.filters.get f).state, (s.filters.get f).circuit)

/-- Event 1 of 1.8: six STANDBY filters are given out. -/
theorem test_first_pass :
    bankOf (State.passSteps { plant with filters := Bank.all (inState .standby), circuits := demands }).state =
      [(.joining, some .A), (.joining, some .A), (.joining, some .B), (.joining, some .C), (.joining, some .B),
       (.standby, none)] := by decide +kernel

/-- The bank of 1.8 with one filter's record replaced. -/
def bank18 (f : FilterId) (r : FilterRecord) : State :=
  settled { plant with
    filters := Bank.set ⟨inService .A, inService .A, inService .B, inService .C, inService .B, inState .standby⟩ f r
    channels := ⟨restingAt (.circuit .A), restingAt (.circuit .A), restingAt (.circuit .B), restingAt (.circuit .C),
      restingAt (.circuit .B), restingAt .closed⟩
    circuits := demands }

/-- Event 3: filter 2 reaches its limit, and filter 6 becomes the cover of A. -/
theorem test_floor_brings_a_cover :
    after (.flowPulse .A) { bank18 .f2 { inService .A with throughput := 799990 } with creditPointer := PerCircuit.all .f1 }
      (fun t => (bankOf t).getLast? == some (.joining, some .A) && t.filters.f6.cover &&
        t.queue.map (fun e => (e.filter, e.eligibility)) == [(.f2, .floorBlocked)]) = true := by decide +kernel

/-- Circuit A with filters 1 and 2 and the cover 6 in SERVICE and a minimum of `n`, and circuit D one short of its own. -/
def donating (n : Nat) : State :=
  let s := bank18 .f6 { inService .A with cover := true }
  { s with circuits := ⟨dosing 2 n, dosing 1 1, dosing 1 1, dosing 1 1⟩,
           filters := (s.filters.set .f3 (inService .B)).set .f5 (inState .fault) }

/-- A gives its cover where that alone is above its keep level, and otherwise the higher of its other filters (01 R16). -/
theorem test_donor_gives :
    bankOf (({ state := donating 2, changed := [], left := [] } : PassWork).transfer .D).state =
      [(.service, some .A), (.service, some .A), (.service, some .B), (.service, some .C), (.fault, none),
       (.joining, some .D)] ∧
    bankOf (({ state := donating 1, changed := [], left := [] } : PassWork).transfer .D).state =
      [(.service, some .A), (.joining, some .D), (.service, some .B), (.service, some .C), (.fault, none),
       (.service, some .A)] ∧
    (({ state := donating 2, changed := [], left := [] } : PassWork).transfer .D).state.filters.f6.cover = false := by
  decide +kernel

/-- Event 5: filter 4 is MEDIA_BLOCKED, and B gives filter 5 to C. -/
theorem test_fault_transfers_a_filter :
    let s := bank18 .f4 { inService .C with grace := 500, dpActive := true, dpTimer := .running 30 }
    let u := s.updFilter .f6 fun _ => { inService .A with cover := true }
    after (.dpHoldExpiry .f4) (settled (u.updFilter .f2 fun _ => { inState .cleaning with circuit := some .A })) (fun t =>
      bankOf t == [(.service, some .A), (.cleaning, some .A), (.service, some .B), (.fault, none), (.joining, some .C),
        (.service, some .A)] && (t.ports.get (.circuit .C)).hasNotice .pathLost &&
      (t.ports.get (.circuit .B)).hasNotice .filterLeft) = true := by decide +kernel

/-- SET_DEMAND(A, 0, 0) with filter 1 SERVICE, 6 its cover and 2 CLEANING: both leave and the mark is set; with a CLEANING
cover alone the mark is set too (01 R19, 08 R156). -/
theorem test_no_filter_wanted :
    let c := fun x => { inState .cleaning with circuit := some .A, cover := x }
    let s := bank18 .f2 (c false)
    let u := settled ((s.updFilter .f6 fun _ => { inService .A with cover := true }).updChannel .f6 fun _ =>
      restingAt (.circuit .A))
    let v := bank18 .f2 (c true)
    let w := settled (v.updFilter .f1 fun _ => inState .fault)
    after (.setDemand .plant [1#8, 0#8, 0#8]) u (fun t => (bankOf t).take 2 == [(.leaving, none), (.cleaning, some .A)] &&
      t.filters.f6.state == .leaving && t.filters.f2.releaseOnReturn) = true ∧
    after (.setDemand .plant [1#8, 0#8, 0#8]) w (fun t => t.filters.f2.releaseOnReturn) = true := by decide +kernel

/-- 3.9: the PRESSURE trigger of filter 1 takes its entry behind filter 6. -/
theorem test_urgent_merge :
    let s := queued (bank18 .f1 { inService .A with dpActive := true, dpTimer := .running 30 })
      [entry .f6 { pressure := true }, entry .f4 { throughput := true }, entry .f1 { runTime := true }]
    after (.dpHoldExpiry .f1) { s with stopActive := true } (fun t =>
      t.queue.map (fun e => (e.filter, e.reasons.pressure, e.reasons.runTime)) ==
        [(.f6, true, false), (.f1, true, true), (.f4, false, false)]) = true := by decide +kernel

/-- 3.10 event 3: flow proof of D expires, and filter 5 is granted. -/
theorem test_stopped_flow_grants_the_last_filter :
    let s := settled { bank18 .f5 (inService .D) with
      circuits := ⟨dosing 2 1, dosing 1 0, dosing 1 0, { dosing 1 0 with mode := .closed }⟩
      flow := PerCircuit.all { FlowRecord.reset with proofTimer := some 10 }
      waste := { allowance := 25000, lowLow := false, bwStart := true } }
    after (.flowProofExpiry .D) (queued s [entry .f5 { throughput := true }]) (fun t =>
      t.filters.f5.state == .cleaning && t.filters.f5.circuit == some .D && t.queue == [] && !t.pathOpen.D &&
      (t.ports.get (.circuit .D)).hasNotice .pathLost && (t.ports.get (.circuit .D)).hasNotice .backwashStarted) =
      true := by decide +kernel

/-- 4.10 at 0:00: the grant at a refill that brings the allowance to 10,400 litres. -/
theorem test_grant_opens_the_line_record :
    let s := bank18 .f6 { inService .A with cover := true }
    let u := { s with waste := { allowance := 10200, lowLow := false, bwStart := true } }
    after .refillTimerExpiry (queued u [entry .f2 { throughput := true }]) (fun t =>
      t.line.clean == some (clean .toBackwash) && t.waste.allowance == 10400 && t.filters.f2.state == .cleaning) =
      true := by decide +kernel

/-- 4.10 at 0:21: the first waste pulse. -/
theorem test_first_waste_pulse :
    after .wastePulse (cleaning plant { clean .backwashRun with phaseTimer := .running 10, flowTimer := .running }) (fun t =>
      t.line.clean == some { clean .backwashRun with phaseTimer := .running 10, counted := 10, wetted := true }) =
      true := by decide +kernel

/-- 4.10 at 5:20: LOW_LOW suspends the run with its timers held: the phase timer, and a flow-proof timer that no pulse has
stopped (04 R79). -/
theorem test_low_low_suspends :
    let r := fun flow => { clean .backwashRun with
      phaseTimer := .running 10, flowTimer := flow, counted := 5000, wetted := true }
    let holds := fun flow kept => after (.lowLowChange true) (cleaning plant (r flow)) (fun t => !t.line.pump &&
      t.line.clean == some { r kept with phase := .suspended, heldPhase := some .backwashRun, phaseTimer := .held 10,
                                         suspendTimer := some 30 })
    holds .stopped .stopped = true ∧ holds .running .held = true := by decide +kernel

/-- A resume goes on from the held phase timer and proves the flow anew (04 R80). -/
theorem test_resume_proves_the_flow_anew :
    let r := { clean .suspended with heldPhase := some .rinseRun, phaseTimer := .held 5, flowTimer := .held,
                                     suspendTimer := some 30 }
    after (.bwStartChange true) { cleaning plant r with waste := { plant.waste with lowLow := false, bwStart := false } }
      (fun t => t.line.pump && t.line.clean == some { r with
        phase := .rinseRun, heldPhase := none, phaseTimer := .running 5, flowTimer := .running, suspendTimer := none }) =
      true := by decide +kernel

/-- 4.10, the first variant: an abort of a wetted suspended clean orders a forced rinse. -/
theorem test_abort_while_suspended :
    let r := { clean .suspended with heldPhase := some .backwashRun, wetted := true, phaseTimer := .held 10 }
    let s := cleaning plant r
    answers (.abortBackwash .plant [2#8]) s .plant = [(0x32#8, .accepted, [2#8])] ∧
    after (.abortBackwash .plant [2#8]) s (fun t => t.line.clean.any (fun x => x.phase == .toRinse &&
      x.outcome == .aborted && x.abortPending) && t.requests.f2.any (fun q => q.target == .rinse)) = true := by
  decide +kernel

/-- A held return to stop 1 that waits for a slot at stop 1, and a circuit that by now wants no filter: in every order of the
release's reactions its travel ends at stop 0. With the pass first the return turns there; with the resume first the clean
ends at stop 1, and the pass releases the filter (04 R75, R83; log entry 39). -/
theorem test_held_return_follows_its_mark :
    let r := { clean .stopHeld with heldPhase := some .returning, outcome := .aborted }
    let t := onLine plant r { restingAt (.circuit .A) with state := .waiting } (.circuit .A)
    let s := { t with
      slots := { first := none, second := none }, travelQueue := [.f2],
      circuits := ⟨CircuitRecord.reset, dosing 1 0, CircuitRecord.reset, CircuitRecord.reset⟩
      filters := (t.filters.set .f1 (inState .outOfUse)).set .f4 (inState .outOfUse)
      requests := t.requests.set .f2 (some { target := .circuit .A, requester := .backwashLine, active := false }) }
    let ends := fun o (x : FilterState) => let u := (s.release o).finishEvent
      u.filters.f2.state == x && u.requests.f2.map TravelRequest.target == some .closed
    ends .passResumeRecover .cleaning = true ∧ ends .passRecoverResume .cleaning = true ∧
    ends .recoverPassResume .cleaning = true ∧ ends .resumePassRecover .leaving = true := by decide +kernel

/-! ## Witnesses for the hypotheses of the obligations -/

/-- A filter 4 on STANDBY with a rinse owed. -/
def owing : FilterRecord :=
  { inState .standby with rinseOwed := true }

/-- Two responses at a port: the queue is full. -/
def full (s : State) (p : PortId) : State :=
  s.updPort p fun q => { q with responses := [{ kind := 0x53#8, status := .done, params := [2#8] },
                                             { kind := 0x53#8, status := .done, params := [2#8] }] }

/-- Two commands wait; none waits with every meter level low; and none with the level of FLOW_B high, or of WASTE. -/
theorem witness_StepTakesTheFrontCommand :
    ({ plant with pending := [.wastePulse, .flowPulse .A] } : State).pending = .wastePulse :: [.flowPulse .A] ∧
    plant.pending = [] ∧ plant.meters = { circuits := PerCircuit.all false, waste := false } ∧
    (plant.raiseFlowMeter .B).pending = [] ∧ (plant.raiseFlowMeter .B).meters.circuits.get .B = true ∧
    plant.raiseWasteMeter.pending = [] ∧ plant.raiseWasteMeter.meters.waste = true := by decide

theorem witness_RequestFramesAreReadWhole :
    0x01#8 ≠ 0#8 ∧ (List.replicate 24 0xFF#8).length ≤ 24 ∧ 0xFF#8 ≠ 0#8 ∧ ([] : List Byte).length ≤ 24 := by decide

/-- A declared length of 25; one of 24 with 24 bytes of 25; one of 0 with a wrong check; and a cut first byte. -/
theorem witness_FailedFramesReportTheirError :
    24 < (25#8).toNat ∧ (24#8).toNat ≤ 24 ∧ (List.replicate 24 0#8).length < (24#8).toNat + 1 ∧
    (0#8).toNat + 1 ≤ [0x52#8].length ∧ xorBytes (0x53#8 :: 0#8 :: [0x52#8].take ((0#8).toNat + 1)) ≠ 0#8 ∧
    readFrame [0x53#8, 0#8, 0x52#8] false = .failed .check ∧ readFrame [] true = .failed .truncated := by decide

theorem witness_FetchSendsTheHeadResponse : 1 ≤ 1 := by decide

theorem witness_StatusByteBits : (full plant .plant).ResponseLaw ∧ [0x00#8] ≠ [] := by
  refine ⟨fun p => ?_, by decide⟩
  rcases p with c | _
  · cases c <;> decide
  · decide

theorem witness_SettingsKeepTheirValues : 250000 < 4294967296 ∧ Item.wasteCap.inRange 250000 = true ∧
    Item.wasteCap.inRange 1000 = true ∧ itemOf 0x20#8 = some .wasteCap ∧ kindOf 0x76#8 = some .purgeEntry := by decide

theorem plant_ranged : plant.RangeLaw where
  settings := by intro i; cases i <;> first | decide | (rename_i c; cases c <;> decide)
  doses := by intro c; cases c <;> decide
  demands := by intro c; cases c <;> decide
  waste := by unfold State.WasteLaw; decide
  responses := by
    intro p
    rcases p with c | _
    · cases c <;> decide
    · decide
  counters := by intro f; cases f <;> exact ⟨by decide, by decide, by decide, by decide⟩
  bins := by intro c; cases c <;> exact ⟨by decide, by decide, by decide⟩
  channels := by
    intro f
    cases f <;> refine ⟨fun p h => ?_, by decide, by decide, by decide, by decide⟩ <;> cases h <;> decide
  volume := by intro r h; cases h
  holds := by intro f n h; cases f <;> rcases h with h | h <;> cases h

/-- The plant with BACKWASH_RUN on one pulse short of 50,000 litres, the greatest volume. -/
def brimming : LineRecord :=
  { clean .backwashRun with counted := 49990, phaseTimer := .running 10 }

theorem witness_RangesAreKept : plant.RangeLaw ∧ (∃ t, step plant = .next t) ∧ brimming.Counted ∧
    { brimming with phase := .toRinse, phaseTimer := .stopped, counted := 50090 }.Counted ∧
    (HoldTimer.running 1).Ranged ∧ (HoldTimer.expired 120).Ranged := by
  refine ⟨plant_ranged, ⟨_, rfl⟩, ⟨by decide, fun _ => by decide⟩, ⟨by decide, fun h => ?_⟩, fun n h => ?_, fun n h => ?_⟩
  · rcases h with h | ⟨m, h⟩
    · exact absurd h (by decide)
    · cases h
  · rcases h with h | h
    · cases h; decide
    · cases h
  · rcases h with h | h
    · cases h
    · cases h; decide

/-- A state in which the next pulse on A owes and starts a stroke. -/
def aboutToDose : State :=
  { plant.updDose .A (fun d => { d with accumulator := 31249 }) with pending := [.flowPulse .A] }

theorem witness_InterlocksFollowTheirConditions :
    aboutToDose.Quiet ∧ aboutToDose.InterlockLaw ∧ ∃ t, step aboutToDose = .next t := by
  refine ⟨?_, ?_, _, rfl⟩ <;> simp only [quiet_iff, interlock_iff] <;> decide

theorem witness_QueueLawIsKept :
    let s := queued plant [entry .f1 { pressure := true }, entry .f2 { throughput := true }]
    s.BankLaw ∧ ∃ t, step s = .next t := by
  refine ⟨⟨?_, ?_⟩, _, rfl⟩
  · simp only [queueLaw_iff]; decide
  · intro h; exact absurd h (by decide)

theorem witness_StrokesStartOnlyWhenAllowed : aboutToDose.Quiet ∧ aboutToDose.InterlockLaw ∧
    ∃ t, step aboutToDose = .next t ∧ (aboutToDose.doses.get .A).delivered < (t.doses.get .A).delivered :=
  ⟨witness_InterlocksFollowTheirConditions.1, witness_InterlocksFollowTheirConditions.2.1, _, rfl, by decide⟩

theorem witness_PortsAreSeparate : (∀ dp, Instr.ping (.circuit .A) [] ≠ .powerOn dp) ∧
    (Instr.ping (.circuit .A) []).port ≠ some .plant ∧ (∃ t, exec (.ping (.circuit .A) []) plant = .next t) ∧
    (Instr.setDose (.circuit .B) [2#8, 0#8, 9#8]).port = some (.circuit .B) ∧
    ∃ t, exec (.setDose (.circuit .B) [2#8, 0#8, 9#8]) plant = .next t :=
  ⟨fun _ h => Instr.noConfusion h, by decide, ⟨_, rfl⟩, rfl, _, rfl⟩

/-- BACKWASH_MAX_TIME is written to 1; the plant leaves SETUP, and RUNNING. -/
theorem witness_PlantStateChangesOnlyByRequest :
    (let c := Instr.writeSetting .plant [0x25#8, 0#8, 0#8, 0#8, 1#8]
     c.wellFormed = true ∧ ∃ t, exec c plant = .next t ∧ t.settings ≠ plant.settings) ∧
    (setup.BankLaw ∧ (Instr.startPlant .plant []).wellFormed = true ∧
      ∃ t, exec (.startPlant .plant []) setup = .next t ∧ setup.plant = .setup ∧ t.plant ≠ .setup) ∧
    plant.BankLaw ∧ (Instr.restart .plant []).wellFormed = true ∧
      ∃ t, exec (.restart .plant []) plant = .next t ∧ plant.plant = .running ∧ t.plant ≠ .running := by
  refine ⟨⟨by decide, _, rfl, by decide⟩, ⟨⟨?_, ?_⟩, by decide, _, rfl, by decide, by decide⟩, ⟨?_, ?_⟩, by decide, _,
    rfl, by decide, by decide⟩
  · simp only [queueLaw_iff]; decide
  · intro _; exact ⟨by decide, fun f => by cases f <;> decide⟩
  · simp only [queueLaw_iff]; decide
  · intro h; exact absurd h (by decide)

/-- One frame for each check: an unknown kind, a plant-only kind on port A, a parameter too many, the wrong plant
state; and a port whose queue is full. -/
theorem witness_FirstChecksRefuseInOrder :
    setup.Quiet ∧ setup.Room (.circuit .A) ∧ setup.Room .plant ∧ 0x99#8 ≠ 0#8 ∧ kindOf 0x99#8 = none ∧
    (List.replicate 24 0#8).length ≤ 24 ∧
    Kind.startPlant ∈ [Kind.writeSetting, .readSetting, .startPlant] ∧ [0#8].length ≠ Kind.startPlant.count ∧
    [9#8].length = Kind.takeOutOfUse.count ∧ (setup.heard .plant).plant ≠ .running ∧
    (setup.heard (.circuit .A)).plant ≠ .running ∧ [2#8].length = Kind.requestBackwash.count ∧
    2 ≤ ((full plant (.circuit .B)).ports.get (.circuit .B)).responses.length ∧ 0x01#8 ≠ 0#8 := by
  simp only [quiet_iff, State.Room]; decide

theorem witness_ReadLayouts : plant.RangeLaw ∧ plant.queue.length ≤ 6 ∧ (HoldTimer.running 120).Ranged ∧
    (cleaning plant brimming).line.clean = some brimming := by
  refine ⟨plant_ranged, by decide, fun n h => ?_, rfl⟩
  rcases h with h | h
  · cases h; decide
  · cases h

theorem witness_ReadsReportTheState : plant.Quiet ∧ plant.Room (.circuit .A) ∧ circuitOf 4#8 = some .D ∧
    circuitOf 5#8 = none ∧ filterOf 6#8 = some .f6 ∧ filterOf 0#8 = none := by
  simp only [quiet_iff, State.Room]; decide

theorem witness_PingAndReadSettingReport : plant.Quiet ∧ plant.Room .plant ∧ plant.Room (.circuit .D) ∧
    Kind.portClear ∈ [Kind.ping, .readNotices, .setAttention, .portClear] ∧
    (List.replicate 24 0#8).length ≠ Kind.portClear.count ∧
    itemOf 0x60#8 = some .priorityOrder ∧ itemOf 0x61#8 = none := by
  simp only [quiet_iff, State.Room]; decide

theorem witness_ReadNoticesTakesTheFlags : plant.Quiet ∧ plant.Room (.circuit .A) ∧ plant.Room .plant ∧
    ¬ (full plant (.circuit .B)).Room (.circuit .B) ∧ ¬ (full plant .plant).Room .plant ∧
    ((plant.post .plant .restarted).ports.get .plant).hasNotice .restarted = true := by
  simp only [quiet_iff, State.Room]; decide

theorem witness_SetAttentionStoresTheMask : plant.Quiet ∧ plant.Room .plant := by
  simp only [quiet_iff, State.Room]; decide

/-- Circuit A is attended and doses, circuit C is not attended. -/
theorem witness_AttendanceComesAndGoes : (plant.circuits.get .A).attended = true ∧
    (plant.circuits.get .C).attended = false ∧ plant.InterlockLaw ∧ (plant.circuits.get .A).silence.isSome = true ∧
    doseState (plant.circuits.get .A).demand (plant.doses.get .A).reasons = .active ∧ plant.Quiet ∧ plant.queue = [] := by
  simp only [quiet_iff, interlock_iff]; decide

/-- A circuit code of no circuit, one of another circuit, a demand already held; a demand that plant stop leaves without a
pass; and one whose pass sends filter 4 to A and filter 3 to stop 0, which must wait for a slot. -/
theorem witness_DemandIsStoredClamped : plant.Quiet ∧ plant.Room (.circuit .A) ∧ plant.Room .plant ∧
    circuitOf 0#8 = none ∧ circuitOf 1#8 = some .A ∧ circuitOf 2#8 = some .B ∧
    ((plant.heard .plant).circuits.get .A).wanted = 2 ∧ ((plant.heard .plant).circuits.get .A).minimum = 1 ∧
    stopped.Quiet ∧ stopped.Room .plant ∧ (stopped.heard .plant).stopActive = true ∧
    surging.Quiet ∧ surging.Room .plant ∧
    let demand := fun c w => (surging.heard .plant).updCircuit c fun k => { k with wanted := w, minimum := 0 }
    let joins := (demand .A 3).passSteps
    let leaves := (demand .B 0).passSteps
    (demand .A 3).plant = .running ∧ (demand .A 3).stopActive = false ∧ (demand .A 3).queue = [] ∧
    (demand .A 3).line.clean = none ∧ joins.changed = [.f4] ∧ (joins.state.filters.get .f4).circuit = some .A ∧
    (demand .A 3).MustWait .f4 (.circuit .A) ∧ leaves.changed = [.f3] ∧ (leaves.state.filters.get .f3).circuit = none ∧
    leaves.left = [.B] ∧ (demand .B 0).MustWait .f3 .closed := by
  simp only [quiet_iff, mustWait_iff, State.Room]; decide +kernel

theorem witness_ModeIsStoredAndDemandReclamped : plant.Quiet ∧ plant.Room (.circuit .A) ∧
    circuitOf 1#8 = some .A ∧ modeOf 4#8 = none ∧ modeOf 1#8 = some ((plant.heard (.circuit .A)).circuits.get .A).mode ∧
    modeOf 3#8 = some .superchlorinate := by
  simp only [quiet_iff, State.Room]; decide

theorem witness_DoseIsStoredClampedAndConfirmed : plant.Quiet ∧ plant.InterlockLaw ∧ plant.Room (.circuit .A) ∧
    circuitOf 1#8 = some .A ∧ circuitOf 2#8 = some .B ∧ circuitOf 5#8 = none := by
  simp only [quiet_iff, interlock_iff, State.Room]; decide

/-- Filter 3 of circuit B is free of the floor; with an entry, it merges. No grant is allowed under plant stop. -/
theorem witness_BackwashRequestsAreFiled :
    let s := stopped
    let q := queued stopped [entry .f3 { throughput := true }]
    s.Room (.circuit .B) ∧ (s.heard (.circuit .B)).plant = .running ∧ filterOf 3#8 = some .f3 ∧ filterOf 7#8 = none ∧
    (s.heard (.circuit .B)).Quiet ∧ (s.heard (.circuit .B)).Evaluated ∧ (s.heard (.circuit .B)).QueueLaw ∧
    (s.heard (.circuit .B)).grantAllowed = false ∧
    ((s.heard (.circuit .B)).filters.get .f3).state = .service ∧
    (∀ e ∈ (s.heard (.circuit .B)).queue, e.filter ≠ .f3) ∧
    (s.heard (.circuit .B)).eligibilityOf .f3 ≠ .floorBlocked ∧
    q.Room .plant ∧ (q.heard .plant).Quiet ∧ (q.heard .plant).Evaluated ∧ (q.heard .plant).QueueLaw ∧
    (q.heard .plant).grantAllowed = false ∧ ∃ e ∈ (q.heard .plant).queue, e.filter = .f3 := by
  simp only [quiet_iff, queueLaw_iff, State.Evaluated, State.Room]; decide

theorem witness_QueuedEntriesAreCalledOff :
    let s := queued stopped [entry .f3 { throughput := true }]
    s.Room .plant ∧ filterOf 3#8 = some .f3 ∧ (s.heard .plant).plant = .running ∧
    (∃ e ∈ (s.heard .plant).queue, e.filter = .f3) ∧ (s.heard .plant).Quiet ∧ (s.heard .plant).Evaluated ∧
    (s.heard .plant).stopActive = true ∧ s.Quiet ∧ s.Evaluated ∧ s.stopActive = true ∧
    (∀ e ∈ s.queue, e.filter ≠ .f1) ∧ filterOf 0#8 = none := by
  simp only [quiet_iff, State.Evaluated, State.Room]; decide

/-- A port that owns no filter 2, and a filter that is neither queued nor cleaned. -/
theorem witness_AbortActsByTheLinesPhase_refused :
    let s := cleaning surging { clean .backwashRun with wetted := true }
    filterOf 2#8 = some .f2 ∧ filterOf 0#8 = none ∧ filterOf 4#8 = some .f4 ∧ s.Room .plant ∧ s.Room (.circuit .C) ∧
    s.Quiet ∧ (s.heard .plant).plant = .running ∧ (s.heard (.circuit .C)).plant = .running ∧
    (s.filters.get .f2).circuit ≠ some .C ∧ (∀ e ∈ (s.heard .plant).queue, e.filter ≠ .f4) ∧
    s.line.clean.isSome = true := by
  simp only [quiet_iff, State.Room]; decide +kernel

/-- Filter 2 bound for stop 5, its selector in a state and at a position. -/
def away (p : Nat) (x : ChannelState) : State :=
  ((cleaning surging (clean .toBackwash)).setRequest .f2
    (some { target := .backwash, requester := .backwashLine, active := true })).updChannel .f2 fun _ =>
      { movingFrom p with state := x }

/-- The selector of a called-off clean waits, or turns: at the braking estimate before stop 1, one step short of it, and
past it. -/
theorem witness_AbortActsByTheLinesPhase_moving :
    (away 0 .waiting).Quiet ∧ ((away 0 .waiting).heard .plant).requests.get .f2 =
      some { target := .backwash, requester := .backwashLine, active := true } ∧
    (((away 0 .waiting).heard .plant).channels.get .f2).state = .waiting ∧
    (∀ p ∈ [180, 181, 1000], (away p .moving).due = Due.none ∧
      ((away p .moving).heard .plant).channels.get .f2 = movingFrom p) ∧
    (movingFrom 180).profile.brakingSteps 20 (movingFrom 180).speed = (200 + 1600 - 180) % 1600 ∧
    (200 + 1600 - 181) % 1600 < (movingFrom 181).profile.brakingSteps 20 (movingFrom 181).speed := by
  simp only [quiet_iff]; decide +kernel

/-- Filter 2 on the Line in each phase by which an abort acts. -/
theorem witness_AbortActsByTheLinesPhase :
    let s := fun r => cleaning surging r
    let run := { clean .backwashRun with wetted := true }
    filterOf 2#8 = some .f2 ∧ (s run).Room .plant ∧ (s run).Quiet ∧ ((s run).heard .plant).plant = .running ∧
    (∀ e ∈ ((s run).heard .plant).queue, e.filter ≠ .f2) ∧ ((s run).heard .plant).line.clean = some run ∧
    ((s run).heard .plant).MustWait .f2 .rinse ∧
    ((s (clean .backwashRun)).heard .plant).MustWait .f2 (.circuit .A) ∧ (s (clean .backwashRun)).Quiet ∧
    (s (clean .rinseRun)).Quiet ∧ ((s (clean .rinseRun)).heard .plant).line.clean = some (clean .rinseRun) ∧
    (s { clean .stopHeld with heldPhase := some .backwashRun }).Quiet ∧
    (s { clean .stopHeld with heldPhase := some .toBackwash }).Quiet := by
  simp only [quiet_iff, mustWait_iff, State.Room]; decide +kernel

theorem witness_ClearLineMakesTheLineAvailable : plant.Room .plant ∧ plant.Room (.circuit .A) ∧ plant.Quiet ∧
    plant.line.available = true ∧
    let s := { plant with line := { plant.line with available := false } }
    s.Quiet ∧ s.line.available = false ∧ ({ s with line := { s.line with available := true } } : State).firstEligible =
      none := by
  simp only [quiet_iff, State.Room]; decide

/-- Values at both ends of an item's range; SEAT_CREEP outside SETUP; a SOFT_BAND that breaks the cross-checks; a value
held. -/
theorem witness_SettingWritesAreChecked : plant.Quiet ∧ plant.Room .plant ∧ setup.Quiet ∧ setup.Room .plant ∧
    itemOf 0x00#8 = none ∧ itemOf 0x35#8 = some .seatCreep ∧ plant.plant ≠ .setup ∧ setup.plant = .setup ∧
    Item.seatCreep.inRange 60 = true ∧ Item.seatCreep.inRange 61 = false ∧ Item.softBand.inRange 351 = true ∧
    (plant.settings.write .softBand 351).crossChecked = false ∧
    (plant.settings.write .softBand 350).crossChecked = true ∧ plant.settings.read .softBand = 100 ∧
    ((0x20, 1000, 250000) : Nat × Nat × Nat) ∈ [(0x20, 1000, 250000)] := by
  simp only [quiet_iff, State.Room]; decide

/-- One write for each item with an owner that takes it at once, and one for an item without. -/
theorem witness_SettingWritesAreDelivered : plant.Quiet ∧ plant.Room .plant ∧
    ∀ row ∈ [(0x20#8, Item.wasteCap, 11999), (0x49#8, .doseCap, 0), (0x4A#8, .shockDoseCap, 300),
        (0x40#8, .strokeVolume .A, 1), (0x44#8, .hypoStrength, 1), (0x37#8, .surgeMode, 3), (0x25#8, .backwashMaxTime, 30)],
      itemOf row.1 = some row.2.1 ∧ row.2.1.inRange row.2.2 = true ∧ plant.settings.read row.2.1 ≠ row.2.2 ∧
      row.2.1 ≠ .seatCreep ∧ row.2.1 ≠ .priorityOrder ∧
      (plant.settings.write row.2.1 row.2.2).crossChecked = true := by
  simp only [quiet_iff, State.Room]; decide

/-- A plant in SETUP with a broken PRIORITY_ORDER. -/
def broken : State :=
  { setup with settings := { Settings.default with priority := ⟨.A, .A, .C, .D⟩ } }

theorem witness_StartPlantHomesTheBank : setup.Quiet ∧ setup.Room .plant ∧ setup.plant = .setup ∧
    setup.settings.crossChecked = true ∧ setup.requests = Bank.all none ∧ setup.travelQueue = [] ∧
    setup.slots = { first := none, second := none } ∧ setup.queue = [] ∧ setup.pauseCondition = false ∧
    (setup.channels.get .f1).cwTorque = false ∧ (setup.channels.get .f2).cwTorque = false ∧
    (setup.channels.get .f1).dir ≠ some .ccw ∧
    { setup with stopActive := true }.pauseCondition = true ∧ broken.settings.crossChecked = false ∧ broken.Quiet ∧
    plant.Quiet ∧ plant.plant ≠ .setup := by
  simp only [quiet_iff, State.Room]; decide

/-- Under plant stop, in SETUP with a broken setting, and with nothing to hold the homing back. -/
theorem witness_RestartHomesTheBankAfresh : stopped.Quiet ∧ stopped.Room .plant ∧ stopped.plant ≠ .setup ∧
    stopped.pauseCondition = true ∧ broken.Quiet ∧ broken.Room .plant ∧ broken.plant = .setup ∧
    broken.settings.crossChecked = false ∧ plant.Quiet ∧ plant.Room .plant ∧ plant.plant ≠ .setup ∧
    plant.pauseCondition = false ∧ (plant.channels.get .f1).cwTorque = false ∧
    (plant.channels.get .f2).cwTorque = false := by
  simp only [quiet_iff, State.Room]; decide

/-- Filter 3 in SERVICE with an entry, under plant stop; filter 6 in FAULT with its position unknown; filter 5 out of
use. -/
theorem witness_TakeOutOfUseParksTheFilter :
    let s := queued stopped [entry .f3 { throughput := true }]
    s.Room .plant ∧ s.Quiet ∧ s.plant = .running ∧ filterOf 3#8 = some .f3 ∧ filterOf 0#8 = none ∧
    s.stopActive = true ∧ s.QueueLaw ∧ s.MustWait .f3 .park ∧ (s.filters.get .f3).state = .service ∧
    (s.filters.get .f3).circuit = some .B ∧ (s.filters.get .f6).state = .fault ∧
    (s.channels.get .f6).position = none ∧ (∀ e ∈ s.queue, e.filter ≠ .f6) ∧ s.Evaluated ∧ s.grantAllowed = false ∧
    (s.filters.get .f5).state = .outOfUse := by
  simp only [quiet_iff, mustWait_iff, queueLaw_iff, State.Evaluated, State.Room]; decide

theorem witness_ReturnToUseHomesTheFilter : stopped.Room .plant ∧ stopped.Quiet ∧ stopped.plant = .running ∧
    filterOf 6#8 = some .f6 ∧ (stopped.filters.get .f6).state = .fault ∧ (stopped.filters.get .f5).state = .outOfUse ∧
    stopped.requests.get .f6 = none ∧ stopped.pauseCondition = true ∧ stopped.Evaluated ∧
    (∀ e ∈ stopped.queue, e.filter ≠ .f6) ∧ stopped.grantAllowed = false ∧
    (stopped.filters.get .f1).state = .service := by
  simp only [quiet_iff, State.Evaluated, State.Room]; decide

theorem witness_FlowPulsesProveFlow : plant.Quiet ∧ plant.InterlockLaw ∧
    ∀ f ∈ allFilters, (plant.filters.get f).state = .service → (plant.filters.get f).circuit ≠ some .C := by
  simp only [quiet_iff, interlock_iff]; decide

/-- Filter 1 is next after the pointer 6; its throughput may end just below the limit, stand on it, or cross it under plant
stop with an entry in the queue or without one. -/
theorem witness_PulsesCreditAndDose : plant.DoseLaw ∧ plant.Quiet ∧ plant.flowProven .A = true ∧
    (plant.filters.get .f1).state = .service ∧ (plant.filters.get .f1).circuit = some .A ∧
    (∀ g ∈ allFilters, (plant.filters.get g).state = .service ∧ (plant.filters.get g).circuit = some .A →
      (filterNumber .f1 + 5 - filterNumber (plant.creditPointer.get .A)) % 6 ≤
        (filterNumber g + 5 - filterNumber (plant.creditPointer.get .A)) % 6) ∧
    799989 + 10 < 800 * 1000 ∧ 800 * 1000 ≤ 800000 ∧
    stopped.QueueLaw ∧ stopped.stopActive = true ∧ (stopped.filters.get .f1).state = .service ∧
    (stopped.filters.get .f1).circuit = some .A ∧ 799990 < 800 * 1000 ∧ 800 * 1000 ≤ min (799990 + 10) 99999999 ∧
    (∀ e ∈ stopped.queue, e.filter ≠ .f1) ∧
    (queued stopped [entry .f1 { runTime := true }]).QueueLaw ∧
    ∃ e ∈ (queued stopped [entry .f1 { runTime := true }]).queue, e.filter = .f1 := by
  simp only [quiet_iff, queueLaw_iff, State.DoseLaw, circuits_iff]; decide

theorem witness_StrokesArePaced :
    let s := plant.updDose .A fun d => { d with pacing := some 500, owed := 1 }
    s.Quiet ∧ (s.doses.get .A).pacing.isSome = true ∧
    doseState (s.circuits.get .A).demand (s.doses.get .A).reasons = .active ∧ 0 < (s.doses.get .A).owed := by
  simp only [quiet_iff]; decide

theorem witness_FlowProofAndBinsExpire : plant.InterlockLaw ∧ plant.flowProven .A = true ∧
    doseState (plant.circuits.get .A).demand (plant.doses.get .A).reasons = .active := by
  simp only [interlock_iff]; decide

/-- The volumes just short of their ends, and at them. -/
theorem witness_WastePulsesAreSpentAndCounted :
    let run := fun n => cleaning surging { clean .backwashRun with counted := n }
    let rinse := fun n => cleaning surging { clean .rinseRun with counted := n }
    plant.Quiet ∧ plant.line.clean = none ∧ (run 7989).Quiet ∧ (run 7989).line.clean.isSome = true ∧
    7989 + (run 7989).settings.litresPerWastePulse < (run 7989).settings.backwashVolume ∧ (run 7990).Quiet ∧
    (run 7990).settings.backwashVolume ≤ 7990 + (run 7990).settings.litresPerWastePulse ∧
    (run 7990).MustWait .f2 .rinse ∧ (rinse 1989).Quiet ∧
    1989 + (rinse 1989).settings.litresPerWastePulse < (rinse 1989).settings.rinseVolume ∧ (rinse 1990).Quiet ∧
    (rinse 1990).settings.rinseVolume ≤ 1990 + (rinse 1990).settings.litresPerWastePulse ∧
    (clean .rinseRun).returnStop ((rinse 1990).filters.get .f2) = .circuit .A ∧
    (rinse 1990).MustWait .f2 (.circuit .A) := by
  simp only [quiet_iff, mustWait_iff]; decide

/-- Filter 3 one minute short of its limit, and at both limits; filter 6, whose timers do not run. -/
theorem witness_LoadTimersRaiseTheirTriggers :
    let at_ := fun n => stopped.updFilter .f3 fun r => { r with runTime := n, throughput := 800000 }
    (at_ 10079).QueueLaw ∧ (at_ 10079).Quiet ∧ (at_ 10079).stopActive = true ∧
    ((at_ 10079).filters.get .f3).minuteTimer = true ∧ ((at_ 10079).filters.get .f3).recheckTimer = true ∧
    ((at_ 10079).filters.get .f3).state.mayQueue = true ∧ 10079 < (at_ 10079).settings.runTimeLimit * 60 ∧
    (at_ 10079).settings.runTimeLimit * 60 ≤ min (10079 + 1) 65535 ∧
    (at_ 10080).settings.runTimeLimit * 60 ≤ ((at_ 10080).filters.get .f3).runTime ∧
    (at_ 10080).settings.throughputLimit * 1000 ≤ ((at_ 10080).filters.get .f3).throughput ∧
    (stopped.filters.get .f6).minuteTimer = false ∧ (stopped.filters.get .f6).recheckTimer = false ∧
    (stopped.filters.get .f3).throughput < stopped.settings.throughputLimit * 1000 := by
  simp only [quiet_iff, queueLaw_iff]; decide

/-- The hold of filter 3 expires with no grace left, and with 1 litre of it. -/
theorem witness_PressureIsQueuedOrBlocksTheFilter :
    let s := fun g => stopped.updFilter .f3 fun r => { r with dpActive := true, dpTimer := .running 30, grace := g }
    (stopped.filters.get .f3).dpActive ≠ true ∧ ((s 0).filters.get .f3).dpTimer = .running 30 ∧
    ((s 0).filters.get .f3).state = .service ∧ ((s 0).filters.get .f3).grace = 0 ∧ (s 0).QueueLaw ∧
    (s 0).stopActive = true ∧ (∀ e ∈ (s 0).queue, e.filter = .f3 → e.reasons.pressure = false) ∧
    0 < ((s 1).filters.get .f3).grace ∧ (s 1).requests.get .f3 = none ∧ .f3 ∉ (s 1).travelQueue ∧
    (s 1).line.clean = none := by
  simp only [queueLaw_iff]; decide

/-- Filter 6 has no floor; filter 4 on STANDBY is first in the queue behind an entry of filter 2 that its floor blocks.
The allowance stands at its least, and one refill short of it. -/
theorem witness_GrantsTakeTheFirstEligibleEntry :
    let s := fun n => queued { surging with
      waste := { plant.waste with allowance := n }, circuits := plant.circuits.set .A (dosing 2 2) }
      [entry .f2 { throughput := true }, entry .f4 { retry := true }]
    (s 10000).queue = [{ entry .f2 { throughput := true } with eligibility := .floorBlocked },
      entry .f4 { retry := true }] ∧
    (s 10000).grantAllowed = true ∧ (s 10000).due.granted = false ∧ (s 10000).MustWait .f4 .backwash ∧
    (s 9999).grantAllowed = false ∧ (s 9800).Quiet ∧ (s 9800).Evaluated ∧
    (s (min (9800 + (s 9800).settings.wasteRate) (s 9800).settings.wasteCap)).grantAllowed = true ∧
    ((s 9800).filters.get .f4).state = .standby ∧ (s 9800).MustWait .f4 .backwash := by
  simp only [quiet_iff, mustWait_iff, State.Evaluated]; decide

theorem witness_TankSwitchesHoldTheRunPhases :
    let run := cleaning plant { clean .backwashRun with phaseTimer := .running 10, flowTimer := .running }
    let low := fun (r : LineRecord) (l h : Bool) => { cleaning plant r with
      waste := { allowance := 10000, lowLow := l, bwStart := h } }
    let held := { clean .suspended with heldPhase := some .rinseRun, phaseTimer := .held 5, flowTimer := .held }
    run.Quiet ∧ run.waste.lowLow = false ∧ run.line.clean.isSome = true ∧ plant.Quiet ∧ plant.line.clean = none ∧
    (low held true true).Quiet ∧ (low held false false).Quiet ∧ held.phaseTimer = .held 5 ∧
    ({ held with phaseTimer := .stopped } : LineRecord).phaseTimer = .stopped ∧
    { plant with waste := { allowance := 0, lowLow := true, bwStart := false } }.Quiet ∧
    { plant with waste := { allowance := 0, lowLow := true, bwStart := false } }.grantAllowed = false ∧
    plant.waste.bwStart = true := by
  simp only [quiet_iff]; decide

/-- Filter 2 on the Line in the phase of each timer, with the bed wetted and not. -/
theorem witness_LineTimersEndThePhase :
    let run := fun w => { clean .backwashRun with phaseTimer := .running 10, flowTimer := .running, wetted := w }
    let rinse := { clean .rinseRun with phaseTimer := .running 5, flowTimer := .running, wetted := true }
    let held := fun w => { clean .suspended with heldPhase := some .backwashRun, suspendTimer := some 30, wetted := w }
    (cleaning surging (run false)).Quiet ∧ (cleaning surging (run false)).MustWait .f2 .rinse ∧
    (cleaning surging (run false)).MustWait .f2 (.circuit .A) ∧ (cleaning surging (run true)).Quiet ∧
    (cleaning surging (run true)).MustWait .f2 .closed ∧ (cleaning surging rinse).Quiet ∧
    (cleaning surging rinse).MustWait .f2 (.circuit .A) ∧ (cleaning surging rinse).MustWait .f2 .closed ∧
    (cleaning surging (held false)).Quiet ∧ (cleaning surging (held false)).MustWait .f2 (.circuit .A) ∧
    (cleaning surging (held true)).Quiet ∧ (cleaning surging (held true)).MustWait .f2 .closed ∧
    rinse.returnStop ((cleaning surging rinse).filters.get .f2) = .circuit .A := by
  simp only [quiet_iff, mustWait_iff]; decide

theorem witness_PlantStopHoldsThePlant : plant.Quiet ∧ plant.stopRead = true ∧ plant.stopActive = false ∧
    plant.line.clean = none ∧ 0 < (plant.circuits.get .A).demand ∧ (plant.doses.get .A).reasons.plantStop = false ∧
    State.reset.Quiet ∧ State.reset.stopRead = false ∧
    (cleaning plant { clean .suspended with heldPhase := some .rinseRun }).Quiet ∧
    (cleaning plant { clean .suspended with heldPhase := some .rinseRun }).line.clean.isSome = true := by
  simp only [quiet_iff]; decide

theorem witness_PlantStopIsReleased :
    let s := settled { setup with stopActive := true }
    s.stopActive = true ∧ s.InterlockLaw ∧ s.Quiet ∧ s.stopRead = true ∧ s.plant = .setup ∧ s.line.clean = none ∧
    s.travelQueue = [] ∧ s.queue = [] ∧ (∀ f ∈ allFilters, (s.channels.get f).state ≠ .paused) ∧
    State.reset.stopActive = true ∧ State.reset.stopRead = false := by
  simp only [quiet_iff, interlock_iff]; decide

/-- A stop held in a phase, under a surge pause: with the selector at stop 5, at stop 6 with LOW_LOW clear and active, and on
its way. -/
theorem witness_PlantStopIsReleased_recovers :
    let r := fun (h : Phase) (w : Bool) => { clean .stopHeld with heldPhase := some h, wetted := w }
    let held := { surging with stopActive := true }
    let rests := cleaning held (r .backwashRun false)
    let rinsed := fun l => { (cleaning held (r .rinseRun true)).updChannel .f2 (fun _ => restingAt .rinse) with
      waste := { plant.waste with lowLow := l } }
    let moves := onLine held (r .returning true) { movingFrom 900 with state := .paused, speed := 0 } (.circuit .A)
    rests.stopActive = true ∧ rests.line.clean = some (r .backwashRun false) ∧ rests.line.pump = false ∧
    rests.surge = true ∧ rests.settings.surgeMode = .pause ∧ (rests.filters.get .f2).state = .cleaning ∧
    (r .backwashRun false).returnTarget = (r .backwashRun false).returnStop (rests.filters.get .f2) ∧
    rests.requests.get .f2 = none ∧ (rests.channels.get .f2).SeatedAt .backwash ∧
    ((rinsed true).channels.get .f2).SeatedAt .rinse ∧ (rinsed true).requests.get .f2 = none ∧
    (rinsed false).waste.lowLow = false ∧ (moves.requests.get .f2).isSome = true := by
  simp only [seatedAt_iff]; decide +kernel

/-- The one paused channel of a plant that is HOMING: half a turn before its stop, one step less, and on a homing travel. -/
theorem witness_PlantStopIsReleased_resumes :
    let ch := fun p d => { movingFrom p with state := .paused, speed := 0, dir := some d }
    let s := fun c => { withFilter stopped .f4 { inState .joining with circuit := some .C } c (bound (.circuit .C)) with
      plant := .homing }
    (s (ch 1400 .cw)).stopActive = true ∧ (s (ch 1400 .cw)).plant ≠ .running ∧ (s (ch 1400 .cw)).line.clean = none ∧
    (s (ch 1400 .cw)).travelQueue = [] ∧ (s (ch 1400 .cw)).surge = false ∧
    (∀ g ∈ allFilters, g ≠ .f4 → ((s (ch 1400 .cw)).channels.get g).state ≠ .paused) ∧
    (s (ch 1400 .cw)).requests.get .f4 = bound (.circuit .C) ∧
    (200 * Stop.number (.circuit .C) + 1600 - 1400) % 1600 = 800 ∧
    (200 * Stop.number (.circuit .C) + 1600 - 1399) % 1600 = 801 ∧ (ch 1399 .cw).torque .ccw = false ∧
    ({ homingIn .clear with state := .paused, dir := some .ccw } : Channel).cwTorque = false := by decide

/-- Filter 4 paused half a turn before its stop, and one step further. -/
theorem witness_SurgeAndBulkInputsAreTaken :
    let ch := fun p d => { movingFrom p with state := .paused, speed := 0, dir := some d }
    let s := fun p d => { withFilter plant .f4 { inState .joining with circuit := some .C } (ch p d) (bound (.circuit .C))
      with surge := true }
    plant.Quiet ∧ plant.surge = false ∧ stopped.Quiet ∧ (s 1400 .cw).Quiet ∧ (s 1400 .cw).surge = true ∧
    (s 1400 .cw).stopActive = false ∧ (s 1400 .cw).travelQueue = [] ∧
    (∀ g ∈ allFilters, g ≠ .f4 → ((s 1400 .cw).channels.get g).state ≠ .paused) ∧
    (s 1400 .cw).requests.get .f4 = bound (.circuit .C) ∧ (200 * Stop.number (.circuit .C) + 1600 - 1400) % 1600 = 800 ∧
    (200 * Stop.number (.circuit .C) + 1600 - 1399) % 1600 = 801 ∧ (s 1399 .ccw).Quiet ∧
    ((s 1399 .ccw).channels.get .f4).torque .ccw = false ∧ plant.bulkLow ≠ true ∧
    doseState (plant.circuits.get .A).demand (plant.doses.get .A).reasons = .active := by
  simp only [quiet_iff]; decide

/-- Circuit A short of its wanted count with no spare filter; B with a spare to take before the pass. -/
theorem witness_PassesMeetTheWantedCounts :
    let s := { plant with circuits := ⟨dosing 3 1, dosing 2 0, CircuitRecord.reset, CircuitRecord.reset⟩ }
    s.passSteps.state.heldCount .A = 3 ∧ s.passSteps.state.heldCount .B < (s.passSteps.state.circuits.get .B).wanted ∧
    CircuitId.B ∈ [s.settings.priority.first, s.settings.priority.second] ∧ (s.filters.get .f6).state = .fault := by
  decide +kernel

/-- A dwell at 800 steps from the target and at 801, with a torque input active, in a homing travel, and in a pause. -/
theorem witness_DwellsEndInAStart :
    let ch := fun p => { movingFrom p with state := .dwell, speed := 0 }
    let s := fun c => withFilter plant .f4 { inState .joining with circuit := some .C } c (bound (.circuit .C))
    (s (ch 1400)).Quiet ∧ (s (ch 1400)).requests.get .f4 = bound (.circuit .C) ∧ (s (ch 1400)).pauseCondition = false ∧
    (s (ch 1400)).NoHandOut ∧ (200 * Stop.number (.circuit .C) + 1600 - 1400) % 1600 = 800 ∧
    (200 * Stop.number (.circuit .C) + 1600 - 1399) % 1600 = 801 ∧ (s (ch 1399)).Quiet ∧
    (s { ch 1400 with cwTorque := true }).Quiet ∧ (s { ch 1399 with ccwTorque := true }).Quiet ∧
    (s { homingIn .search with state := .dwell }).Quiet ∧ { s (ch 1400) with stopActive := true }.Quiet ∧
    { s (ch 1400) with stopActive := true }.pauseCondition = true := by
  simp only [quiet_iff, State.NoHandOut]; decide

/-- One step before the target, two before it, at it, in the start creep, and the last search step but one. -/
theorem witness_IntervalsFollowTheProfile :
    let s := fun c => withFilter plant .f4 { inState .joining with circuit := some .C } c (bound (.circuit .C))
    1 ≤ (movingFrom 599).profile.speedStep ∧ (s (movingFrom 599)).Quiet ∧
    (s (movingFrom 599)).requests.get .f4 = bound (.circuit .C) ∧ (s (movingFrom 599)).surge = false ∧
    (movingFrom 599).state = .moving ∧ (movingFrom 599).dir = some .cw ∧ (movingFrom 599).overrun = false ∧
    (200 * Stop.number (.circuit .C) + 1600 - 599) % 1600 ≤ (100 + (movingFrom 599).residue) / 100 ∧
    (movingFrom 599).detent = false ∧ (s (movingFrom 599)).NoHandOut ∧
    (100 + (movingFrom 598).residue) / 100 < (200 * Stop.number (.circuit .C) + 1600 - 598) % 1600 ∧
    (200 * Stop.number (.circuit .C) + 1600 - 600) % 1600 = 0 ∧ (s (movingFrom 600)).NoHandOut ∧
    (s { homingIn .search with search := 1698 }).Quiet ∧ (homingIn .search).position = none ∧
    (homingIn .search).edge = none ∧ 1698 + (100 + (homingIn .search).residue) / 100 < 1700 := by
  simp only [quiet_iff, State.NoHandOut]; decide

/-- Each failure: a trip, a start with both torque inputs active, a missed detent, a lost seat, a drift of 9 and of −9,
a search at its limit, and one that the interval brings there. -/
theorem witness_FailedTravelsFaultTheFilter :
    let s := fun c => withFilter plant .f4 { inState .joining with circuit := some .C } c (bound (.circuit .C))
    let edge := fun p => some { position := some p, dir := .cw, rising := true, steps := 0 : EdgeRecord }
    let limit := fun (phase : HomingPhase) (rising : Bool) => { homingIn phase with
      search := 1700, edge := some { position := none, dir := .cw, rising := rising, steps := 3 : EdgeRecord } }
    let t := fun c => withFilter plant .f4 (inState .homing) c
      (some { target := .closed, requester := .homing, active := true })
    (s (movingFrom 340)).requests.get .f4 = bound (.circuit .C) ∧
    ((s (movingFrom 340)).filters.get .f4).state ∈ [.homing, .joining, .leaving, .parking] ∧
    (s (movingFrom 340)).line.clean = none ∧ (movingFrom 340).dir = some .cw ∧ (movingFrom 340).cwTorque = false ∧
    (s (movingFrom 340)).pauseCondition = false ∧ (edge 1586).isSome = true ∧ (1595 + 1600 - 1586) % 1600 = 9 ∧
    (edge 4).isSome = true ∧ (1595 + 1600 - 4) % 1600 = 1591 ∧ ((t (homingIn .search)).filters.get .f4).state = .homing ∧
    1700 ≤ 1699 + (100 + (homingIn .search).residue) / 100 ∧ (t (homingIn .search)).surge = false ∧ 1700 ≤ (limit .search true).search ∧
    (limit .search true).edge.isSome = true ∧ (limit .clear false).homing = some .clear ∧
    ({ movingFrom 0 with state := .settling, settleTimer := some 500 } : Channel).settleTimer.isSome = true ∧
    ({ movingFrom 0 with seated := true } : Channel).state ∈ [.waiting, .dwell, .moving, .paused] := by
  decide

/-- A settle over a stop that is no longer the target, with a slot, the channel last turned the way of the start and the
other way; and without one. A lost seat of an OUT_OF_USE filter. -/
theorem test_settle_over_another_stop :
    let ch := fun d : Dir => { movingFrom 600 with state := .settling, speed := 0, dir := some d,
                                                   settleStop := some (.circuit .C), settleTimer := some 500 }
    let s := fun d => withFilter plant .f4 (inState .leaving) (ch d) (bound .closed)
    let free := { s .ccw with slots := { first := some .f1, second := some .f2 } }
    let out := plant.channels.get .f5
    ((s .ccw).Quiet ∧ (s .ccw).requests.get .f4 = bound .closed ∧ ((s .ccw).channels.get .f4).settleStop ≠ some .closed ∧
      (s .ccw).slots.holds .f4 = true ∧ (s .ccw).pauseCondition = false ∧ (s .ccw).travelQueue = [] ∧
      (200 * Stop.number .closed + 1600 - 200 * Stop.number (.circuit .C)) % 1600 = 1000) ∧
    after (.detentClose .f4) (s .ccw) (fun t =>
      t.channels.f4.state == .moving && t.channels.f4.position == some 600) = true ∧
    after (.detentClose .f4) (s .cw) (fun t => t.channels.f4.state == .dwell) = true ∧
    (free.Quiet ∧ free.slots.holds .f4 = false ∧ free.slots.hasFree = false) ∧
    after (.detentClose .f4) free (fun t => t.channels.f4.state == .waiting && t.travelQueue == [.f4]) = true ∧
    (plant.filters.get .f5).state = .outOfUse ∧ out.state = .idle ∧ out.seated = true := by
  simp only [quiet_iff]; decide +kernel

/-- A MOVING channel 8 and 9 steps short of its stop with a drift of 8, each way round; a search whose rise was 5, 6 and
804 steps ago, and one with the CCW torque input active. -/
theorem test_edges_while_moving :
    let rise := fun d p n => some { position := p, dir := d, rising := true, steps := n : EdgeRecord }
    let turn := fun (d : Dir) p q => { movingFrom p with dir := some d, edge := rise d (some q) 5 }
    let t := fun c => withFilter plant .f4 (inState .leaving) c (bound .closed)
    let search := fun n => { homingIn .search with edge := rise .cw none n }
    let u := fun c => withFilter plant .f4 (inState .homing) c
      (some { target := .closed, requester := .homing, active := true })
    let becomes := fun s (x : ChannelState) (p : Nat) => after (.homeEdgeConfirmed .f4 true) s fun y =>
      y.channels.f4.state == x && y.channels.f4.position == some p
    ((t (turn .cw 1592 1587)).Quiet ∧ (1595 + 1600 - 1587) % 1600 = 8 ∧ (0 + 1600 - 1592) % 1600 = 8) ∧
    becomes (t (turn .cw 1592 1587)) .settling 0 = true ∧ becomes (t (turn .cw 1591 1587)) .moving 1599 = true ∧
    ((t (turn .ccw 8 13)).Quiet ∧ (5 + 1600 - 13) % 1600 = 1592) ∧
    becomes (t (turn .ccw 8 13)) .settling 0 = true ∧ becomes (t (turn .ccw 9 13)) .moving 1 = true ∧
    (u (search 5)).Quiet ∧ becomes (u (search 5)) .settling 0 = true ∧
    becomes (u (search 6)) .dwell 1 = true ∧ becomes (u (search 804)) .dwell 799 = true ∧
    becomes (u { search 6 with ccwTorque := true }) .moving 1 = true := by
  simp only [quiet_iff]; decide +kernel

/-- A settle that ends in each of three filter states; a lost seat at rest; drifts of 8, 0 and −8; a rise 4 steps ago; a
homing paused in CLEAR, and one in APPROACH; a search one short of its limit. The two tests before it meet the other
clauses. -/
theorem witness_SeatsAndHomeEdgesAreTaken :
    let ch := { movingFrom 600 with state := .settling, settleStop := some (.circuit .C), settleTimer := some 500 }
    let s := fun x => withFilter stopped .f4 { inState x with circuit := some .C } ch (bound (.circuit .C))
    let t := fun c => withFilter plant .f4 (inState .joining) c (bound (.circuit .C))
    let rise := fun p n => some { position := some p, dir := .cw, rising := true, steps := n : EdgeRecord }
    ((s .joining).requests.get .f4 = bound (.circuit .C) ∧ (s .joining).stopActive = true ∧
      ((s .joining).channels.get .f4).settleStop = some (.circuit .C) ∧ ((s .leaving).filters.get .f4).state = .leaving ∧
      ((s .parking).filters.get .f4).state = .parking) ∧
    (plant.channels.get .f1).state = .idle ∧ (plant.channels.get .f1).seated = true ∧
    (plant.filters.get .f1).state = .service ∧ plant.requests.get .f1 = none ∧ .f1 ∉ plant.travelQueue ∧
    plant.line.clean = none ∧ plant.Quiet ∧ (plant.channels.get .f6).seated = false ∧
    (t (movingFrom 0)).Quiet ∧ (movingFrom 0).state = .moving ∧
    (t { movingFrom 0 with state := .dwell, edge := rise 1587 0 }).Quiet ∧ (1595 + 1600 - 1587) % 1600 ≤ 8 ∧
    1592 ≤ (1595 + 1600 - 3) % 1600 ∧ (rise 3 0).isSome = true ∧
    (t { homingIn .search with edge := rise 0 4 }).Quiet ∧
    (t { homingIn .clear with state := .paused }).Quiet ∧
    (t { homingIn .clear with edge := (rise 0 1).map fun e : EdgeRecord => { e with rising := false } }).Quiet ∧ (t { homingIn .approach with edge := rise 0 1 }).Quiet ∧
    ({ homingIn .search with search := 1699 } : Channel).search < 1700 := by
  simp only [quiet_iff]; decide

/-- The selector of the cleaning filter settles over stop 5 and over stop 6, with LOW_LOW clear and active; and over stop 5
under plant stop. -/
theorem witness_ArrivalsBeginTheRunPhases :
    let s := fun p k l => { onLine plant (clean p) (settlingAt k) k with waste := { plant.waste with lowLow := l } }
    let held := onLine stopped { clean .stopHeld with heldPhase := some .toBackwash } (settlingAt .backwash) .backwash
    (s .toBackwash .backwash false).Quiet ∧ (s .toRinse .rinse true).Quiet ∧
    (s .toRinse .rinse true).line.clean = some (clean .toRinse) ∧
    (s .toRinse .rinse true).requests.get .f2 = some { target := .rinse, requester := .backwashLine, active := true } ∧
    ((s .toRinse .rinse true).channels.get .f2).state = .settling ∧
    ((s .toRinse .rinse true).channels.get .f2).settleStop = some .rinse ∧ (s .toRinse .rinse true).travelQueue = [] ∧
    held.Quiet ∧ held.pauseCondition = true := by
  simp only [quiet_iff]; decide

/-- A return to stop 1, with the loads below their limits and on them; one to stop 0, with the exit fault and without; and a
held one under plant stop, filed again behind an urgent entry. -/
theorem witness_ReturnsEndTheClean :
    let back := onLine plant { clean .returning with outcome := .complete } (settlingAt (.circuit .A)) (.circuit .A)
    let r := { clean .stopHeld with heldPhase := some .returning, outcome := .aborted, requeue := true }
    let held := onLine (queued stopped [entry .f3 { pressure := true }, entry .f4 { retry := true }]) r
      (settlingAt (.circuit .A)) (.circuit .A)
    let loaded := held.updFilter .f2 fun x => { x with throughput := 800000, runTime := 10080 }
    back.line.clean.isSome = true ∧ (back.filters.get .f2).state = .cleaning ∧
    (back.requests.get .f2).map TravelRequest.requester = some .backwashLine ∧
    (back.channels.get .f2).settleStop = some (.circuit .A) ∧ held.line.clean = some r ∧ held.stopActive = true ∧
    held.QueueLaw ∧ (loaded.filters.get .f2).throughput = 800 * 1000 ∧ (loaded.filters.get .f2).runTime = 168 * 60 ∧
    (onLine plant { clean .returning with exitUnrinsed := true, returnTarget := .closed } (settlingAt .closed)
      .closed).line.clean.isSome = true := by
  simp only [queueLaw_iff]; decide

/-- Each failure of the cleaning filter's selector, on its way to stop 6 and at rest on stop 5. -/
theorem witness_FailedTravelsEndTheClean :
    let s := fun c => onLine plant (clean .toRinse) c .rinse
    let edge := fun p => some { position := some p, dir := .ccw, rising := true, steps := 0 : EdgeRecord }
    (s (movingFrom 1100)).line.clean = some (clean .toRinse) ∧ ((s (movingFrom 1100)).filters.get .f2).state = .cleaning ∧
    (s (movingFrom 1100)).requests.get .f2 = some { target := .rinse, requester := .backwashLine, active := true } ∧
    (movingFrom 1100).cwTorque = false ∧ (s (movingFrom 1100)).pauseCondition = false ∧
    (settlingAt .rinse).settleTimer.isSome = true ∧ (edge 1596).isSome = true ∧ (5 + 1600 - 1596) % 1600 = 9 ∧
    (5 + 1600 - 14) % 1600 = 1591 ∧ (washing.channels.get .f2).state = .idle ∧
    (washing.channels.get .f2).seated = true ∧ washing.requests.get .f2 = none ∧ .f2 ∉ washing.travelQueue := by decide

/-- The last open homing of the bank, one with others open, and one outside the homing of the bank. -/
theorem witness_HomingEndsAreReported :
    let s := fun b x => { withFilter (if x then stopped else homingPlant) .f4 { inState .homing with rinseOwed := x }
      (settlingAt .closed) (some { target := .closed, requester := .homing, active := true }) with bankHoming := b }
    let last := (Bank.all false).set .f4 true
    let more := last.set .f6 true
    ((s last false).filters.get .f4).state = .homing ∧
    (s last false).requests.get .f4 = some { target := .closed, requester := .homing, active := true } ∧
    ((s last false).channels.get .f4).state = .settling ∧ ((s last false).channels.get .f4).settleTimer.isSome = true ∧
    ((s last false).channels.get .f4).settleStop = some .closed ∧ (s last false).travelQueue = [] ∧
    (∀ g ∈ allFilters, g ≠ .f4 → last.get g = false) ∧ more.get .f6 = true ∧ (s more false).plant = .homing ∧
    (s (Bank.all false) true).stopActive = true ∧ (s (Bank.all false) true).QueueLaw ∧ (s more false).QueueLaw ∧
    (s more false).stopActive = false ∧ (s last false).line.clean = none := by
  simp only [queueLaw_iff]; decide

/-- A pass in the making over a bank. -/
def workOf (s : State) : PassWork :=
  { state := s, changed := [], left := [] }

/-- Circuit C lacks its minimum with B the last donor; with A the one donor, whose other filters lie at its keep level, and
one above it; a marked CLEANING filter; an entry blocked by the floor with a spare
filter; and each rank of the release of A: the cover, SERVICE, JOINING and CLEANING. -/
theorem witness_PassStepsFollowTheirRules :
    let short := { plant with circuits := ⟨dosing 2 1, dosing 1 0, dosing 1 1, CircuitRecord.reset⟩ }
    let marked := plant.updFilter .f1 fun _ => { inState .cleaning with circuit := some .A, releaseOnReturn := true }
    let blocked := queued { plant with circuits := plant.circuits.set .A (dosing 2 2) } [entry .f2 { throughput := true }]
    let surplus := fun x => (plant.updFilter .f2 fun _ => x).updCircuit .A fun _ => CircuitRecord.reset
    (workOf short).state.activeCount .C < 1 ∧ short.keepLevel .B < short.serviceCount .B ∧ short.serviceCount .D = 0 ∧
    (short.filters.get .f3).serves .B = true ∧ (donating 2).donor .D = some .A ∧ (donating 2).onlyCoverAbove .A = true ∧
    (donating 1).donor .D = some .A ∧ (donating 1).onlyCoverAbove .A = false ∧ marked.heldCount .A < (marked.circuits.get .A).wanted ∧
    (marked.filters.get .f1).markedFor .A = true ∧ blocked.floorBlocked .A = true ∧ blocked.hasCover .A = false ∧
    (∀ x ∈ [{ inService .A with cover := true }, inService .A, { inState .joining with circuit := some .A },
      { inState .cleaning with circuit := some .A }],
      (surplus x).allowedCount .A = 0 ∧ (surplus x).heldCount .A = 2) := by decide +kernel

/-- Filter 4 two steps before its target under each surge mode; with the overrun mark above START_SPEED and at it, off and
on its target; in APPROACH one step and two before 0, and in SEARCH, under SLOW_HOLD too; and a PARKING filter on its
stop and one step before it. -/
theorem witness_IntervalsUnderSurgeAndOverrun :
    let s := fun c m => { withFilter plant .f4 { inState .joining with circuit := some .C } c (bound (.circuit .C)) with
      surge := true, settings := { Settings.default with surgeMode := m } }
    let u := fun c => withFilter plant .f4 { inState .joining with circuit := some .C } c (bound (.circuit .C))
    let park := fun p => withFilter plant .f4 (inState .parking) { movingFrom p with detent := true, creep := 1 }
      (some { target := .park, requester := .maintenance, active := true })
    (s (movingFrom 598) .slow).Quiet ∧ (s (movingFrom 598) .pause).Quiet ∧
    (s (movingFrom 598) .slow).requests.get .f4 = bound (.circuit .C) ∧
    (100 + (movingFrom 598).residue) / 100 < (600 + 1600 - 598) % 1600 ∧
    (u { movingFrom 598 with overrun := true, speed := 120 }).Quiet ∧ (u { movingFrom 600 with overrun := true }).Quiet ∧
    (u { movingFrom 600 with overrun := true }).NoHandOut ∧ (movingFrom 600).creep = 0 ∧
    (u { homingIn .approach with position := some 1599 }).Quiet ∧ (1600 - 1599) % 1600 ≤ 100 / 100 ∧
    100 / 100 < (1600 - 1598) % 1600 ∧ (park 1399).Quiet ∧ (park 1400).Quiet ∧ (park 1400).travelQueue = [] ∧
    ((park 1400).filters.get .f4).state = .parking ∧ (∀ e ∈ (park 1400).queue, e.filter ≠ .f4) ∧
    (park 1400).line.clean = none ∧
    (s { homingIn .search with search := 1698 } .slowHold).Quiet ∧ (homingIn .search).position = none ∧
    (homingIn .search).edge = none ∧ 1698 + (100 + (homingIn .search).residue) / 100 < 1700 ∧
    (s { homingIn .approach with position := some 1599 } .slowHold).Quiet := by
  simp only [quiet_iff, State.NoHandOut]; decide

theorem washing_drive : washing.DriveLaw where
  requests :=
    { asked := by intro f; cases f <;> decide
      waiting := by intro f r h; cases f <;> cases h
      queued := by intro f; cases f <;> decide
      distinct := by decide
      homing := by intro f h; cases f <;> cases h }
  slots :=
    { needed := by intro f; cases f <;> decide
      holder := by intro f; cases f <;> decide
      separate := by intro f; cases f <;> decide }
  speeds :=
    { moving := by intro f; cases f <;> decide
      still := by intro f; cases f <;> decide
      copied := by intro f; cases f <;> decide
      checked := by decide }
  setup := by intro h; cases h
  atRest := by intro h; cases h

theorem washing_work : washing.WorkLaw where
  quiet := by simp only [quiet_iff]; decide
  bank := ⟨by simp only [queueLaw_iff]; decide, by intro h; cases h⟩
  evaluated := by unfold State.Evaluated; decide
  drive := washing_drive
  assignment :=
    { assigned := by intro f; cases f <;> decide
      unassigned := by intro f; cases f <;> decide
      cover := by intro f; cases f <;> decide
      oneCover := by intro f g h; cases f <;> cases h
      mark := by intro f h; cases f <;> cases h
      seated := by
        intro f c h k
        cases f <;> first | exact absurd h (by decide) | (cases k; exact ⟨rfl, rfl, rfl, rfl⟩)
      travel := by intro f; cases f <;> decide
      timers := by intro f; cases f <;> decide
      faults := by intro f; cases f <;> decide
      fresh := by intro h; cases h }
  line :=
    { record := by intro f h; cases f <;> first | exact ⟨_, rfl, rfl⟩ | cases h
      clean := by
        intro r h
        cases h
        exact
          { cleaning := rfl, stopHeld := by decide, held := by decide, place := ⟨rfl, rfl, rfl, rfl⟩, target := rfl
            running := by decide, waiting := fun _ h => absurd h (by decide), slotless := by decide }
      pump := ⟨fun _ => ⟨_, rfl, rfl⟩, fun _ => rfl⟩ }

theorem witness_DriveLawsAreKept : washing.DriveLaw ∧ ∃ t, step washing = .next t :=
  ⟨washing_drive, _, rfl⟩

theorem witness_WorkLawsAreKept : washing.WorkLaw ∧ washing.line.pump = true ∧ ∃ t, step washing = .next t :=
  ⟨washing_work, rfl, _, rfl⟩

end Sys2Proof.Tests
end

section
/-! SUPPORT. What reading an item gives after a write (11 R200). -/

namespace Sys2Proof.Machine

theorem circuitOf_number (c : CircuitId) : circuitOf (BitVec.ofNat 8 (circuitNumber c)) = some c := by
  cases c <;> rfl

theorem circuitNumber_lt (c : CircuitId) : circuitNumber c < 256 := by
  cases c <;> decide

/-- The code of an order names the order. -/
theorem priorityOf_code (p : Priority) : priorityOf p.code = some p := by
  obtain ⟨a, b, c, d⟩ := p
  have byte : ∀ (n : Nat) (k : CircuitId), n % 256 = circuitNumber k → circuitOf (BitVec.ofNat 8 n) = some k := by
    intro n k e
    rw [← circuitOf_number k]
    congr 1
    apply BitVec.eq_of_toNat_eq
    simp [e, Nat.mod_eq_of_lt (circuitNumber_lt k)]
  have la := circuitNumber_lt a
  have lb := circuitNumber_lt b
  have lc := circuitNumber_lt c
  have ld := circuitNumber_lt d
  simp only [priorityOf, Priority.code]
  rw [byte _ a (by omega), byte _ b (by omega), byte _ c (by omega), byte _ d (by omega)]

/-! The two halves of the rule for a stored item: what is written is in its range again, every other item stands. They
are elaborated together, one after the other, which keeps the number of Lean's threads within the memory of the check. -/

mutual

/-- The item that a write stores is the item read, and the others stand. -/
theorem Settings.read_write_ne (t : Settings) {i j : Item} (h : j ≠ i) (v : Nat) : (t.write i v).read j = t.read j := by
  cases i <;> cases j <;> first
    | exact absurd rfl h
    | rfl
    | (simp only [Settings.write, Settings.read]
       exact PerCircuit.get_set_ne _ (fun e => h (by rw [e])) _)

theorem Settings.inRange_write_self (t : Settings) {i : Item} {v : Nat} (h : i.inRange v = true) :
    i.inRange ((t.write i v).read i) = true := by
  cases i
  case surgeMode =>
    simp only [Settings.write, Settings.read]
    cases (surgeModeOf v).getD t.surgeMode <;> rfl
  case priorityOrder =>
    simp only [Settings.write, Settings.read, Item.inRange, priorityOf_code]
    rfl
  all_goals simpa [Settings.write, Settings.read] using h

end

end Sys2Proof.Machine
end

section
/-! The proofs from here on are elaborated one after another: side by side they need more memory than a check of the text has. -/
set_option Elab.async false

section
/-! SUPPORT. Properties of the Line, the loads and the hold timers that every reaction of an event keeps, whatever the
property: `Persistent P` lists the few updates that reach those items, and one lemma for each operation follows. -/

namespace Sys2Proof.Machine

/-- A filter record that a transition of the Filter Table has changed: the loads and the last outcome stand, and a hold
timer that is not as it was has been stopped or started for `hold` seconds. -/
def FilterRecord.Moved (hold : Nat) (r x : FilterRecord) : Prop :=
  x.throughput = r.throughput ∧ x.runTime = r.runTime ∧ x.grace = r.grace ∧ x.backwashCount = r.backwashCount ∧
    x.lastOutcome = r.lastOutcome ∧ (x.dpTimer = r.dpTimer ∨ x.dpTimer = .stopped ∨ x.dpTimer = .running hold)

/-- A property that stands on the table, the Line, the waste tank and the settings alone, and that every update a reaction
makes to them keeps. -/
def Persistent (P : State → Prop) : Prop :=
  (∀ {s t : State}, P s → t.filters = s.filters → t.line = s.line → t.waste = s.waste →
    t.settings = s.settings → t.stopActive = s.stopActive → P t) ∧
  (∀ {s : State} (f : FilterId) {g : FilterRecord → FilterRecord}, P s →
    (s.filters.get f).Moved s.settings.dpHold (g (s.filters.get f)) → P (s.updFilter f g)) ∧
  (∀ {s : State} {r : LineRecord} {o : CleanOutcome}, P s → s.line.clean = some r →
    o = r.outcome ∨ o = r.outcome.orAborted → P (s.updFilter r.filter fun x => x.afterClean o)) ∧
  (∀ {s : State} {r : LineRecord}, P s → s.line.clean = some r →
    P (s.updFilter r.filter fun x => { x with lastOutcome := r.outcome.orAborted })) ∧
  (∀ {s : State} {r : LineRecord} (b : Bool), P s → s.line.clean = some r → P (s.setPump b)) ∧
  (∀ {s : State}, P s → P (s.setClean none)) ∧
  (∀ {s : State} {r x : LineRecord}, P s → s.line.clean = some r → x.outcome = r.outcome →
    (r.Counted → x.Counted) → P (s.setClean (some x))) ∧
  ∀ {s : State} (e : QueueEntry), P s → s.grantAllowed = true → P (s.setClean (some (s.newClean e)))

namespace Persistent

variable {P : State → Prop} (hP : Persistent P) {s : State}

theorem foldl {α : Type} {g : State → α → State} (hg : ∀ (s : State) (x : α), P s → P (g s x)) (l : List α) {s : State}
    (h : P s) : P (l.foldl g s) := by
  induction l generalizing s with
  | nil => exact h
  | cons x l ih => exact ih (hg s x h)

/-- A fold of pass work keeps the property of its state. -/
theorem foldlWork {α : Type} {g : PassWork → α → PassWork} (hg : ∀ (w : PassWork) (x : α), P w.state → P (g w x).state)
    (l : List α) {w : PassWork} (h : P w.state) : P (l.foldl g w).state := by
  induction l generalizing w with
  | nil => exact h
  | cons x l ih => exact ih (hg w x h)

include hP

theorem aside {t : State} (h : P s) (e1 : t.filters = s.filters) (e2 : t.line = s.line) (e3 : t.waste = s.waste)
    (e4 : t.settings = s.settings) (e5 : t.stopActive = s.stopActive) : P t := hP.1 h e1 e2 e3 e4 e5

theorem moved (f : FilterId) {g : FilterRecord → FilterRecord} (h : P s)
    (m : (s.filters.get f).Moved s.settings.dpHold (g (s.filters.get f))) : P (s.updFilter f g) := hP.2.1 f h m

theorem loads {r : LineRecord} {o : CleanOutcome} (h : P s) (hs : s.line.clean = some r)
    (ho : o = r.outcome ∨ o = r.outcome.orAborted) : P (s.updFilter r.filter fun x => x.afterClean o) := hP.2.2.1 h hs ho

theorem outcome {r : LineRecord} (h : P s) (hs : s.line.clean = some r) :
    P (s.updFilter r.filter fun x => { x with lastOutcome := r.outcome.orAborted }) := hP.2.2.2.1 h hs

theorem pump {r : LineRecord} (b : Bool) (h : P s) (hs : s.line.clean = some r) : P (s.setPump b) := hP.2.2.2.2.1 b h hs

theorem clear (h : P s) : P (s.setClean none) := hP.2.2.2.2.2.1 h

theorem clean {r x : LineRecord} (h : P s) (hs : s.line.clean = some r) (hx : x.outcome = r.outcome)
    (hc : r.Counted → x.Counted) : P (s.setClean (some x)) := hP.2.2.2.2.2.2.1 h hs hx hc

theorem granted (e : QueueEntry) (h : P s) (ha : s.grantAllowed = true) : P (s.setClean (some (s.newClean e))) :=
  hP.2.2.2.2.2.2.2 e h ha

theorem withDue (h : P s) (d : Due) : P { s with due := d } := hP.aside h rfl rfl rfl rfl rfl
theorem needPass (h : P s) : P s.needPass := hP.aside h rfl rfl rfl rfl rfl
theorem needEval (h : P s) : P s.needEval := hP.aside h rfl rfl rfl rfl rfl
theorem needGrant (h : P s) : P s.needGrant := hP.aside h rfl rfl rfl rfl rfl
theorem filterChanged (h : P s) : P s.filterChanged := hP.aside h rfl rfl rfl rfl rfl
theorem post (h : P s) (p : PortId) (n : Notice) : P (s.post p n) := hP.aside h rfl rfl rfl rfl rfl

theorem postTo (h : P s) (c : Option CircuitId) (n : Notice) : P (s.postTo c n) := by
  cases c with
  | none => exact h
  | some k => exact hP.post h _ _

theorem setQueue (h : P s) (q : List QueueEntry) : P (s.setQueue q) := hP.aside h rfl rfl rfl rfl rfl
theorem setRequest (h : P s) (f : FilterId) (r : Option TravelRequest) : P (s.setRequest f r) :=
  hP.aside h rfl rfl rfl rfl rfl
theorem updChannel (h : P s) (f : FilterId) (g : Channel → Channel) : P (s.updChannel f g) :=
  hP.aside h rfl rfl rfl rfl rfl

theorem withTravelQueue (h : P s) (q : List FilterId) : P { s with travelQueue := q } :=
  hP.aside h rfl rfl rfl rfl rfl

theorem formReasons (h : P s) (c : CircuitId) (g : Interlocks → Interlocks) : P (s.formReasons c g) :=
  hP.aside h (by simp) (by simp) (by simp) (by simp) (by simp)

theorem formAllReasons (h : P s) (g : Interlocks → Interlocks) : P (s.formAllReasons g) :=
  hP.aside h (by simp) (by simp) (by simp) (by simp) (by simp)

/-! ### The queue and the table -/

theorem takeEligibility (h : P s) (f : FilterId) (v : Eligibility) : P (s.takeEligibility f v) := by
  cases v
  case floorBlocked => exact hP.needPass h
  case needsStop => exact hP.postTo h _ _
  all_goals exact h

theorem fileEntry (h : P s) (f : FilterId) (r : Reasons) : P (s.fileEntry f r) := by
  unfold State.fileEntry
  split
  · split
    · dsimp only
      split
      · exact hP.needGrant (hP.needEval (hP.setQueue h _))
      · exact hP.needEval (hP.setQueue h _)
    · exact hP.needGrant (hP.needEval (hP.takeEligibility (hP.setQueue h _) _ _))
  · exact h

theorem dropEntry (h : P s) (f : FilterId) : P (s.dropEntry f) := by
  unfold State.dropEntry
  split
  · exact hP.filterChanged (hP.needPass (hP.setQueue h _))
  · exact h

theorem evaluateEntry (h : P s) (f : FilterId) : P (s.evaluateEntry f) := by
  unfold State.evaluateEntry
  split
  · exact h
  · dsimp only
    split
    · exact h
    · exact hP.needGrant (hP.takeEligibility (hP.setQueue h _) _ _)

theorem evaluateQueue (h : P s) : P s.evaluateQueue := by
  unfold State.evaluateQueue
  exact foldl (P := P) (fun _ f k => hP.evaluateEntry k f) _ h

theorem moveFilter (h : P s) (f : FilterId) (st : FilterState) {g : FilterRecord → FilterRecord}
    (hg : ∀ r, (g r).throughput = r.throughput ∧ (g r).runTime = r.runTime ∧ (g r).grace = r.grace ∧
      (g r).backwashCount = r.backwashCount ∧ (g r).lastOutcome = r.lastOutcome) : P (s.moveFilter f st g) := by
  refine hP.filterChanged (hP.moved f h ?_)
  obtain ⟨h1, h2, h3, h4, h5⟩ := hg (s.filters.get f)
  unfold FilterRecord.enter
  split
  · refine ⟨h1, h2, h3, h4, h5, .inr ?_⟩
    dsimp only
    split
    · exact .inr rfl
    · exact .inl rfl
  · exact ⟨h1, h2, h3, h4, h5, .inr (.inl rfl)⟩

theorem checkThroughput (h : P s) (f : FilterId) : P (s.checkThroughput f) := by
  unfold State.checkThroughput
  split
  · exact hP.fileEntry h _ _
  · exact h

theorem checkRunTime (h : P s) (f : FilterId) : P (s.checkRunTime f) := by
  unfold State.checkRunTime
  split
  · exact hP.fileEntry h _ _
  · exact h

theorem checkLoads (h : P s) (f : FilterId) : P (s.checkLoads f) :=
  hP.checkRunTime (hP.checkThroughput h f) f

theorem loseCover (h : P s) (c : Option CircuitId) : P (s.loseCover c) := by
  cases c with
  | none => exact h
  | some k => exact foldl (P := P) (fun _ f x => hP.moved f x ⟨rfl, rfl, rfl, rfl, rfl, .inl rfl⟩) _ h

theorem faultFilter (h : P s) (f : FilterId) (kind : FaultKind) : P (s.faultFilter f kind) := by
  unfold State.faultFilter
  dsimp only
  split
  · exact h
  · refine hP.needPass (hP.postTo (hP.post (hP.setQueue ?_ _) _ _) _ _)
    have k : P (s.moveFilter f .fault fun r => r.faulted kind) :=
      hP.moveFilter h f .fault fun _ => ⟨rfl, rfl, rfl, rfl, rfl⟩
    split
    · exact hP.loseCover k _
    · exact k

theorem enterRunning (h : P s) : P s.enterRunning := by
  have k : P { s with plant := .running } := hP.aside h rfl rfl rfl rfl rfl
  exact hP.filterChanged (hP.needPass (hP.formAllReasons (hP.post k .plant .homingDone) _))

theorem reportHoming (h : P s) (f : FilterId) : P (s.reportHoming f) := by
  have k : P { s with bankHoming := s.bankHoming.set f false } := hP.aside h rfl rfl rfl rfl rfl
  unfold State.reportHoming
  split
  · dsimp only
    split
    · exact hP.enterRunning k
    · exact k
  · exact h

theorem filterArrived (h : P s) (f : FilterId) : P (s.filterArrived f) := by
  have move : ∀ st, P (s.moveFilter f st id) := fun st => hP.moveFilter h f st fun _ => ⟨rfl, rfl, rfl, rfl, rfl⟩
  unfold State.filterArrived
  split
  · exact hP.needPass (hP.checkLoads (hP.postTo (move _) _ _) f)
  · exact hP.needPass (move _)
  · exact move _
  · unfold State.arriveHoming
    dsimp only
    split
    · exact hP.reportHoming (hP.needPass (hP.fileEntry (move _) _ _)) f
    · exact hP.reportHoming (hP.needPass (move _)) f
  all_goals exact h

theorem filterOutcome (h : P s) (f : FilterId) (o : TravelOutcome) : P (s.filterOutcome f o) := by
  unfold State.filterOutcome
  split
  · exact hP.filterArrived h f
  · dsimp only
    split
    · exact hP.reportHoming (hP.faultFilter h f _) f
    · exact hP.faultFilter h f _

/-! ### The Line between its travels -/

theorem beginRun {r x : LineRecord} (h : P s) (hs : s.line.clean = some r) (hx : x.outcome = r.outcome) (p : Phase) :
    P (s.beginRun x p) := by
  unfold State.beginRun
  refine hP.pump true (hP.clean h hs hx fun _ => ?_) rfl
  simp [LineRecord.Counted]

theorem arriveRun {r : LineRecord} (h : P s) (hs : s.line.clean = some r) (p : Phase) : P (s.arriveRun r p) := by
  unfold State.arriveRun
  split
  · exact hP.clean h hs rfl fun c => ⟨c.1, by simp [Phase.isRun]⟩
  · exact hP.beginRun h hs rfl p

theorem lineIdle (h : P s) : P s.lineIdle :=
  hP.filterChanged (hP.needPass (hP.clear h))

theorem faultClean {r : LineRecord} (h : P s) (hs : s.line.clean = some r) (kind : FaultKind) : P (s.faultClean r kind) :=
  hP.lineIdle (hP.postTo (hP.faultFilter (hP.loads (r := r) (hP.pump false h hs) hs (.inr rfl)) _ _) _ _)

theorem endUnrinsed {r : LineRecord} (h : P s) (hs : s.line.clean = some r) : P (s.endUnrinsed r) :=
  hP.lineIdle (hP.postTo (hP.faultFilter (hP.outcome h hs) _ _) _ _)

theorem returnFilter (h : P s) (r : LineRecord) : P (s.returnFilter r) := by
  unfold State.returnFilter State.returnToStandby State.returnToCircuit
  split
  all_goals
    refine hP.postTo (hP.moveFilter h _ _ ?_) _ _
    exact fun _ => ⟨rfl, rfl, rfl, rfl, rfl⟩

theorem checkLoadsInService (h : P s) (f : FilterId) : P (s.checkLoadsInService f) := by
  unfold State.checkLoadsInService
  split
  · exact hP.checkLoads h f
  · exact h

theorem endReturned {r : LineRecord} (h : P s) (hs : s.line.clean = some r) : P (s.endReturned r) := by
  have k := hP.returnFilter (hP.loads h hs (.inl rfl)) r
  unfold State.endReturned
  refine hP.lineIdle (hP.postTo (hP.checkLoadsInService ?_ _) _ _)
  split
  · exact hP.fileEntry k _ _
  · exact k

theorem endClean {r : LineRecord} (h : P s) (hs : s.line.clean = some r) : P (s.endClean r) := by
  unfold State.endClean
  split
  · exact hP.endUnrinsed h hs
  · exact hP.endReturned h hs

theorem lineArrived {r : LineRecord} (h : P s) (hs : s.line.clean = some r) : P (s.lineArrived r) := by
  unfold State.lineArrived
  split
  · exact hP.arriveRun h hs _
  · exact hP.arriveRun h hs _
  · exact hP.endClean h hs
  · split
    · exact hP.endClean h hs
    · exact h
  all_goals exact h

theorem lineOutcome (h : P s) (f : FilterId) (o : TravelOutcome) : P (s.lineOutcome f o) := by
  unfold State.lineOutcome
  split
  · exact h
  · next r hs =>
    split
    · split
      · exact hP.lineArrived h hs
      · exact hP.faultClean h hs _
    · exact h

theorem deliver (h : P s) (q : Requester) (f : FilterId) (o : TravelOutcome) : P (s.deliver q f o) := by
  cases q
  case backwashLine => exact hP.lineOutcome h f o
  all_goals exact hP.filterOutcome h f o

/-! ### Travels -/

theorem finishTravel (h : P s) (f : FilterId) (o : TravelOutcome) : P (s.finishTravel f o) := by
  unfold State.finishTravel
  dsimp only
  split
  · refine hP.deliver ?_ _ f o
    exact hP.aside h rfl rfl rfl rfl rfl
  · exact hP.aside h rfl rfl rfl rfl rfl

theorem afterStart (h : P s) (f : FilterId) (x : Channel × Option TravelOutcome) : P (s.afterStart f x) := by
  unfold State.afterStart
  dsimp only
  split
  · exact hP.updChannel h f _
  · exact hP.finishTravel (hP.updChannel h f _) f _

theorem startTravel (h : P s) (f : FilterId) (t : Stop) : P (s.startTravel f t) :=
  hP.afterStart h f _

theorem startAny (h : P s) (f : FilterId) (t : Stop) : P (s.startAny f t) := by
  unfold State.startAny
  split
  · exact hP.afterStart h f _
  · exact hP.startTravel h f t

theorem seatConfirmed (h : P s) (f : FilterId) : P (s.seatConfirmed f) := by
  unfold State.seatConfirmed
  split
  · exact h
  · dsimp only
    split
    · exact hP.finishTravel (hP.updChannel h f _) f _
    · split
      · exact hP.startTravel (hP.updChannel (hP.updChannel h f _) f _) f _
      · exact hP.withTravelQueue
          (hP.updChannel (hP.setRequest (hP.updChannel (hP.updChannel h f _) f _) f _) f _) _

theorem enterSettling (h : P s) (f : FilterId) (t : Stop) : P (s.enterSettling f t) := by
  unfold State.enterSettling
  dsimp only
  split
  · exact hP.seatConfirmed (hP.updChannel h f _) f
  · exact hP.updChannel h f _

theorem giveSlot (h : P s) (f : FilterId) : P (s.giveSlot f) := by
  unfold State.giveSlot
  split
  · exact h
  · dsimp only
    split
    · refine hP.startAny ?_ f _
      exact hP.aside h rfl rfl rfl rfl rfl
    · split
      · refine hP.enterSettling ?_ f _
        exact hP.aside h rfl rfl rfl rfl rfl
      · refine hP.startTravel ?_ f _
        exact hP.aside h rfl rfl rfl rfl rfl

theorem handOutUpTo (n : Nat) (h : P s) : P (State.handOutUpTo n s) := by
  induction n generalizing s with
  | zero => exact h
  | succ n ih =>
    unfold State.handOutUpTo
    split
    · exact h
    · split
      · refine ih (hP.giveSlot ?_ _)
        exact hP.aside h rfl rfl rfl rfl rfl
      · exact h

theorem handOut (h : P s) : P s.handOut := hP.handOutUpTo _ h

theorem endTravel (h : P s) (f : FilterId) (o : TravelOutcome) : P (s.endTravel f o) :=
  hP.handOut (hP.finishTravel h f o)

theorem fileTravel (h : P s) (f : FilterId) (t : Stop) (q : Requester) : P (s.fileTravel f t q) := by
  have waits : P (s.fileWaiting f t q) := hP.handOut (hP.aside h rfl rfl rfl rfl rfl)
  unfold State.fileTravel
  split
  · unfold State.retarget
    dsimp only
    split
    · exact hP.setRequest h f _
    · exact hP.updChannel (hP.setRequest h f _) f _
  · split
    · split
      · exact waits
      · exact hP.deliver h q f _
    · split
      · exact hP.enterSettling (hP.setRequest h f _) f t
      · exact waits

theorem resume (h : P s) (f : FilterId) : P (s.resume f) := by
  unfold State.resume
  split
  · exact h
  · split
    · exact hP.startAny h f _
    · exact h

theorem resumeAll (h : P s) : P s.resumeAll := by
  unfold State.resumeAll
  split
  · exact h
  · exact hP.handOut (foldl (P := P) (fun _ f k => hP.resume k f) _ h)

/-! ### Passes, the grant and the end of an event -/

theorem refreshReturn (h : P s) : P s.refreshReturn := by
  unfold State.refreshReturn
  split
  · exact h
  · next r hs =>
    dsimp only
    have k : P (s.setClean (some { r with returnTarget := s.returnTargetOf r })) := hP.clean h hs rfl id
    split
    · exact h
    · split
      · exact hP.fileTravel k _ _ _
      · exact k

theorem assign {w : PassWork} (h : P w.state) (c : CircuitId) (b : Bool) (f : FilterId) : P (w.assign c b f).state :=
  hP.moveFilter h f .joining fun _ => ⟨rfl, rfl, rfl, rfl, rfl⟩

theorem meetMinimum {w : PassWork} (h : P w.state) (c : CircuitId) : P (w.meetMinimum c).state :=
  foldlWork (P := P) (fun w f k => by
    split
    · exact hP.assign k _ _ _
    · exact k) _ h

theorem transfer {w : PassWork} (h : P w.state) (c : CircuitId) : P (w.transfer c).state := by
  unfold PassWork.transfer
  split
  · split
    · exact h
    · split
      · exact h
      · exact hP.moveFilter h _ .joining fun _ => ⟨rfl, rfl, rfl, rfl, rfl⟩
  · exact h

theorem unmark {w : PassWork} (h : P w.state) (c : CircuitId) : P (w.unmark c).state := by
  unfold PassWork.unmark
  split
  · split
    · exact h
    · dsimp only
      refine hP.moved _ h ?_
      exact ⟨rfl, rfl, rfl, rfl, rfl, .inl rfl⟩
  · exact h

theorem meetWanted {w : PassWork} (h : P w.state) (c : CircuitId) : P (w.meetWanted c).state :=
  foldlWork (P := P) (fun w f k => by
    split
    · exact hP.assign k _ _ _
    · exact k) _ (hP.unmark h c)

theorem bringCover {w : PassWork} (h : P w.state) (c : CircuitId) : P (w.bringCover c).state := by
  unfold PassWork.bringCover
  split
  · split
    · exact h
    · exact hP.assign h _ _ _
  · exact h

theorem release {w : PassWork} (h : P w.state) (c : CircuitId) : P (w.release c).state := by
  unfold PassWork.release
  split
  · split
    · exact h
    · unfold PassWork.releaseFilter
      split
      · dsimp only
        refine hP.moved _ h ?_
        exact ⟨rfl, rfl, rfl, rfl, rfl, .inl rfl⟩
      · exact hP.moveFilter h _ .leaving fun _ => ⟨rfl, rfl, rfl, rfl, rfl⟩
  · exact h

theorem clearCover {w : PassWork} (h : P w.state) (c : CircuitId) : P (w.clearCover c).state := by
  unfold PassWork.clearCover
  split
  · exact h
  · exact hP.loseCover h (some c)

theorem passSteps (h : P s) : P s.passSteps.state :=
  foldlWork (P := P) (fun _ c k => hP.clearCover k c) _ <|
    foldlWork (P := P) (fun _ c k => foldlWork (P := P) (fun _ _ k => hP.release k c) _ k) _ <|
    foldlWork (P := P) (fun _ c k => hP.bringCover k c) _ <|
    foldlWork (P := P) (fun _ c k => hP.meetWanted k c) _ <|
    foldlWork (P := P) (fun _ c k => foldlWork (P := P) (fun _ _ k => hP.transfer k c) _ k) _ <|
    foldlWork (P := P) (fun _ c k => hP.meetMinimum k c) _ h

theorem filePassTravel (h : P s) (f : FilterId) : P (s.filePassTravel f) := by
  unfold State.filePassTravel
  split
  · exact hP.fileTravel h _ _ _
  · exact hP.fileTravel h _ _ _
  · exact h

theorem handOn {w : PassWork} (h : P w.state) : P w.handOn :=
  foldl (P := P) (fun _ c k => hP.post k (.circuit c) .filterLeft) _
    (foldl (P := P) (fun _ f k => hP.filePassTravel k f) _ (hP.refreshReturn h))

theorem takePass (h : P s) : P s.takePass := by
  unfold State.takePass
  split
  · exact hP.filterChanged (hP.handOn (hP.passSteps h))
  · exact h

theorem grant (h : P s) (ha : s.grantAllowed = true) (e : QueueEntry) : P (s.grant e) := by
  have k := hP.setQueue (hP.granted e h ha) (removeEntry s.queue e.filter)
  refine hP.fileTravel (hP.postTo (hP.moveFilter k e.filter .cleaning ?_) _ _) _ _ _
  exact fun _ => ⟨rfl, rfl, rfl, rfl, rfl⟩

theorem tryGrant (h : P s) : P s.tryGrant := by
  unfold State.tryGrant
  split
  · next ha =>
    rw [Bool.and_eq_true] at ha
    split
    · exact h
    · refine hP.grant (hP.withDue h _) ?_ _
      exact ha.1
  · exact h

theorem settle (b : Bool) (n : Nat) (h : P s) : P (State.settle b n s) := by
  induction n generalizing s with
  | zero => exact h
  | succ n ih =>
    unfold State.settle
    split
    · refine ih ?_
      split
      · exact hP.takePass (hP.withDue h _)
      · exact hP.withDue h _
    · split
      · exact ih (hP.evaluateQueue (hP.withDue h _))
      · split
        · exact ih (hP.tryGrant (hP.withDue h _))
        · exact h

theorem evalPath (h : P s) (c : CircuitId) : P (s.evalPath c) := by
  have k : P { s with pathOpen := s.pathOpen.set c (s.hasPath c) } := hP.aside h rfl rfl rfl rfl rfl
  unfold State.evalPath
  dsimp only
  split
  · exact h
  · exact hP.formReasons (hP.post k _ _) _ _

theorem evalPaths (h : P s) : P s.evalPaths := by
  unfold State.evalPaths
  exact foldl (P := P) (fun _ c k => hP.evalPath k c) _ h

theorem finishEvent (h : P s) : P s.finishEvent := by
  have k := hP.evalPaths (hP.settle false Config.settleRounds (hP.settle true Config.settleRounds h))
  exact hP.withDue k Due.none

end Persistent

end Sys2Proof.Machine
end

section
/-! SUPPORT. What an event's own effect keeps: `Keeps s t` says that the interlock law and the ranges pass from `s` to `t`
and that no response is queued. One lemma for each operation; the two invariants O9 and O10 are read off at the end. -/

namespace Sys2Proof.Machine

variable {s t u : State}

/-! ## Counted volume and hold timers -/

/-- The settings with what a reaction draws from them: the counted volume and the hold timers in their ranges. -/
abbrev State.Metered (s : State) : Prop :=
  s.SettingsLaw ∧ s.VolumeLaw ∧ s.HoldLaw

theorem State.Metered.settings (h : s.Metered) : s.SettingsLaw := h.1
theorem State.Metered.volume (h : s.Metered) : s.VolumeLaw := h.2.1
theorem State.Metered.holds (h : s.Metered) : s.HoldLaw := h.2.2

theorem State.RangeLaw.metered (h : s.RangeLaw) : s.Metered := ⟨h.settings, h.volume, h.holds⟩

theorem State.SettingsLaw.bounds (h : s.SettingsLaw) (i : Item) {low high v : Nat}
    (e : i.inRange (s.settings.read i) = within low high v) : low ≤ v ∧ v ≤ high := by
  have k := h i
  rw [e] at k
  simpa [within] using k

theorem LineRecord.Counted.of_counted {r x : LineRecord} (h : r.Counted) (hc : x.counted = r.counted)
    (hp : x.phase.isRun = true ∨ (∃ m, x.phaseTimer = .held m) → r.phase.isRun = true ∨ ∃ m, r.phaseTimer = .held m) :
    x.Counted := by
  obtain ⟨h1, h2⟩ := h
  exact ⟨by omega, fun k => by have := h2 (hp k); omega⟩

theorem HoldTimer.Ranged.running {n : Nat} (h : 1 ≤ n ∧ n ≤ 120) : (HoldTimer.running n).Ranged := by
  rintro m (e | e) <;> cases e
  exact h

theorem HoldTimer.Ranged.stopped : HoldTimer.stopped.Ranged := by
  rintro m (e | e) <;> cases e

/-- A change of one filter record that keeps the hold timers in their range. -/
theorem State.HoldLaw.updFilter (h : s.HoldLaw) (f : FilterId) {g : FilterRecord → FilterRecord}
    (hg : (s.filters.get f).dpTimer.Ranged → (g (s.filters.get f)).dpTimer.Ranged) : (s.updFilter f g).HoldLaw := by
  intro q
  rw [State.updFilter_filters, Bank.get_set]
  split
  · exact hg (h f)
  · exact h q

theorem State.Metered.updFilter (h : s.Metered) (f : FilterId) {g : FilterRecord → FilterRecord}
    (hg : (s.filters.get f).dpTimer.Ranged → (g (s.filters.get f)).dpTimer.Ranged) : (s.updFilter f g).Metered :=
  ⟨h.settings, h.volume, h.holds.updFilter f hg⟩

theorem State.Metered.setClean (h : s.Metered) {x : LineRecord} (hx : x.Counted) : (s.setClean (some x)).Metered :=
  ⟨h.settings, fun r e => by cases e; exact hx, h.holds⟩

theorem FilterRecord.afterClean_dpTimer (r : FilterRecord) (o : CleanOutcome) : (r.afterClean o).dpTimer = r.dpTimer := by
  unfold FilterRecord.afterClean
  split <;> rfl

theorem State.Metered.setPump (h : s.Metered) (b : Bool) : (s.setPump b).Metered := ⟨h.settings, h.volume, h.holds⟩

theorem metered_persistent : Persistent State.Metered := by
  refine ⟨fun h e1 e2 _ e4 _ => ?_, fun f g h m => ?_, fun h _ _ => ?_, fun h _ => h.updFilter _ id,
    fun b h _ => h.setPump b, fun h => ?_, fun h hs _ hc => ?_, fun e h _ => ?_⟩
  case refine_1 => exact ⟨h.settings.of_eq e4, fun r e => h.volume r (e2 ▸ e), fun f => by rw [e1]; exact h.holds f⟩
  case refine_2 =>
    obtain ⟨-, -, -, -, -, timer⟩ := m
    refine State.Metered.updFilter h f fun k => ?_
    rcases timer with e | e | e <;> rw [e]
    · exact k
    · exact .stopped
    · exact .running (h.settings.bounds .dpHold rfl)
  case refine_3 => exact h.updFilter _ fun k => by rw [FilterRecord.afterClean_dpTimer]; exact k
  case refine_4 => exact ⟨h.settings, fun _ e => (nomatch e), h.holds⟩
  case refine_5 => exact h.setClean (hc (h.volume _ hs))
  case refine_6 => exact h.setClean ⟨by simp [State.newClean], fun _ => by simp [State.newClean]⟩

/-! ## What the Line's own events do to its counted volume -/

/-- A record with every timer of the phase stopped claims the bound of an ended run phase alone. -/
theorem LineRecord.counted_stopTimers {r : LineRecord} (h : r.counted < 50100) {p : Phase} (hp : p.isRun = false) (st : Stop) :
    ({ r.stopTimers with phase := p, returnTarget := st } : LineRecord).Counted := by
  refine ⟨h, fun k => ?_⟩
  rcases k with k | ⟨m, k⟩
  · exact absurd k (by simp [hp])
  · cases k

theorem State.Metered.toRinse (h : s.Metered) {r : LineRecord} (hr : r.counted < 50100) : (s.toRinse r).Metered :=
  (metered_persistent).fileTravel ((h.setPump false).setClean (LineRecord.counted_stopTimers hr rfl r.returnTarget)) _ _ _

theorem State.Metered.beginReturning (h : s.Metered) {r : LineRecord} (hr : r.counted < 50100) :
    (s.beginReturning r).Metered :=
  (metered_persistent).fileTravel ((h.setPump false).setClean (LineRecord.counted_stopTimers hr rfl (s.returnTargetOf r))) _ _ _

theorem State.Metered.endRun (h : s.Metered) {r : LineRecord} (hr : r.counted < 50100) (b : Bool) :
    (s.endRun r b).Metered := by
  unfold State.endRun
  split
  · refine h.toRinse ?_
    split <;> exact hr
  · have k : (s.rinsed r.filter).Metered := h.updFilter _ id
    exact k.beginReturning hr

theorem State.SettingsLaw.phaseVolume_le (h : s.SettingsLaw) (p : Phase) : s.settings.phaseVolume p ≤ 50000 := by
  unfold Settings.phaseVolume
  split
  · exact (h.bounds .backwashVolume rfl).2
  · exact (h.bounds (high := 20000) .rinseVolume rfl).2.trans (by decide)

theorem State.Metered.lineWastePulse (h : s.Metered) : s.lineWastePulse.Metered := by
  unfold State.lineWastePulse
  split
  · exact h
  · next r hs =>
    split
    · next hp =>
      have below := (h.volume r hs).2 (.inl hp)
      have litres : s.settings.litresPerWastePulse ≤ 100 := (h.settings.bounds .litresPerWastePulse rfl).2
      have volume := h.settings.phaseVolume_le r.phase
      have counted : (r.countPulse s.settings.litresPerWastePulse).counted = r.counted + s.settings.litresPerWastePulse := rfl
      dsimp only
      split
      · exact h.endRun (by omega) false
      · exact h.setClean ⟨by omega, fun _ => by omega⟩
    · exact h

theorem State.Metered.linePhaseExpiry (h : s.Metered) : s.linePhaseExpiry.Metered := by
  unfold State.linePhaseExpiry
  split
  · exact h
  · next r hs =>
    split
    · split
      · exact h.endRun (h.volume r hs).1 true
      · exact h
    all_goals exact h

theorem State.Metered.lineSuspend (h : s.Metered) : s.lineSuspend.Metered := by
  unfold State.lineSuspend
  split
  · exact h
  · next r hs =>
    split
    · next hp =>
      refine (h.setPump false).setClean ?_
      exact (h.volume r hs).of_counted rfl fun _ => .inl hp
    · exact h

theorem State.Metered.beginRun (h : s.Metered) (r : LineRecord) (p : Phase) : (s.beginRun r p).Metered := by
  unfold State.beginRun
  refine State.Metered.setPump (h.setClean ?_) true
  simp [LineRecord.Counted]

theorem State.Metered.lineResume (h : s.Metered) : s.lineResume.Metered := by
  unfold State.lineResume
  split
  · exact h
  · next r hs =>
    split
    · split
      · next m hm =>
        refine State.Metered.setPump (h.setClean ?_) true
        exact (h.volume r hs).of_counted rfl fun _ => .inr ⟨m, hm⟩
      all_goals exact h.beginRun r _
    · exact h

theorem State.Metered.lineLevel (h : s.Metered) : s.lineLevel.Metered := by
  unfold State.lineLevel
  split
  · exact h.lineResume
  · exact h

theorem State.Metered.post (h : s.Metered) (p : PortId) (n : Notice) : (s.post p n).Metered := (metered_persistent).post h p n

theorem State.Metered.lineSuspendExpiry (h : s.Metered) : s.lineSuspendExpiry.Metered := by
  unfold State.lineSuspendExpiry
  split
  · exact h
  · next r hs =>
    have hr := h.volume r hs
    split
    · dsimp only
      split <;> exact (h.post _ _).beginReturning hr.1
    · exact h

theorem State.Metered.lineStop (h : s.Metered) : s.lineStop.Metered := by
  unfold State.lineStop
  split
  · exact h
  · next r hs =>
    split
    · exact h
    · exact (h.setPump false).setClean (LineRecord.counted_stopTimers (h.volume r hs).1 rfl r.returnTarget)

theorem State.Metered.lineRecover (h : s.Metered) : s.lineRecover.Metered := by
  unfold State.lineRecover
  split
  · exact h
  · next r hs =>
    have hr := h.volume r hs
    have goesOn : (s.continueReturning r).Metered := by
      unfold State.continueReturning
      have k : (s.setClean (some { r.stopTimers with phase := .returning })).Metered :=
        h.setClean (LineRecord.counted_stopTimers hr.1 rfl r.returnTarget)
      dsimp only
      split
      · exact (metered_persistent).fileTravel k _ _ _
      · exact k
    split
    · split
      · exact h.beginReturning hr.1
      · split
        · exact h.toRinse hr.1
        · exact h.beginReturning hr.1
      · exact h.toRinse hr.1
      · exact h.toRinse hr.1
      all_goals exact goesOn
    · exact h

theorem State.Metered.abortClean (h : s.Metered) {r : LineRecord} (hs : s.line.clean = some r) :
    (s.abortClean r).2.Metered := by
  have hr := h.volume r hs
  have called : r.calledOff.Counted := ⟨hr.1, hr.2⟩
  unfold State.abortClean
  dsimp only
  split
  · dsimp only
    split
    · exact h.setClean called
    · exact h.beginReturning hr.1
  · split
    · dsimp only
      split
      · exact h.setClean called
      · exact h.toRinse hr.1
    · dsimp only
      split
      · exact h.setClean called
      · exact h.beginReturning hr.1
  all_goals exact h

/-! ## Keeping the laws -/

/-- The interlock law and the ranges pass from one state to another, and no port has more responses queued. -/
abbrev Keeps (s t : State) : Prop :=
  (s.InterlockLaw → t.InterlockLaw) ∧ (s.RangeLaw → t.RangeLaw) ∧
    ∀ p, (t.ports.get p).responses.length ≤ (s.ports.get p).responses.length

theorem Keeps.intro (interlocks : s.InterlockLaw → t.InterlockLaw) (ranges : s.RangeLaw → t.RangeLaw)
    (room : ∀ p, (t.ports.get p).responses.length ≤ (s.ports.get p).responses.length) : Keeps s t :=
  ⟨interlocks, ranges, room⟩

theorem Keeps.interlocks (h : Keeps s t) : s.InterlockLaw → t.InterlockLaw := h.1
theorem Keeps.ranges (h : Keeps s t) : s.RangeLaw → t.RangeLaw := h.2.1
theorem Keeps.room (h : Keeps s t) (p : PortId) :
    (t.ports.get p).responses.length ≤ (s.ports.get p).responses.length := h.2.2 p

theorem Keeps.refl (s : State) : Keeps s s := ⟨id, id, fun _ => Nat.le_refl _⟩

theorem Keeps.trans (h : Keeps s t) (k : Keeps t u) : Keeps s u :=
  ⟨fun x => k.interlocks (h.interlocks x), fun x => k.ranges (h.ranges x), fun p => (k.room p).trans (h.room p)⟩

/-- A reaction keeps the laws, since it leaves alone what they range over but for the items that it is known to keep. -/
theorem Reacts.keeps (h : Reacts s t) (hm : s.Metered → t.Metered) : Keeps s t := Keeps.intro
  (interlocks := h.interlocks)
  (ranges := fun x =>
    { settings := x.settings.of_eq h.undisturbed.settings
      doses := fun c => by
        have k := h.undisturbed.doses c
        rw [k.accumulator, k.delivered, k.shortfall, h.undisturbed.settings]
        exact ⟨(x.doses c).1, k.owed.trans (x.doses c).2.1, (x.doses c).2.2⟩
      demands := fun c => by rw [h.undisturbed.circuits]; exact x.demands c
      waste := by
        have k := x.waste
        unfold State.WasteLaw at k ⊢
        rw [h.undisturbed.waste, h.undisturbed.settings]
        exact k
      responses := fun p => by rw [(h.undisturbed.ports p).responses]; exact x.responses p
      counters := h.counters x.counters
      bins := fun c => by rw [h.undisturbed.flow]; exact x.bins c
      channels := h.channels x.settings x.channels
      volume := (hm x.metered).volume
      holds := (hm x.metered).holds })
  (room := fun p => by rw [(h.undisturbed.ports p).responses])

theorem Keeps.finishEvent (s : State) : Keeps s s.finishEvent :=
  (Reacts.refl s).finishEvent.keeps (metered_persistent).finishEvent

theorem Keeps.foldl {α : Type} {g : State → α → State} (hg : ∀ (s : State) (x : α), Keeps s (g s x)) (l : List α)
    (s : State) : Keeps s (l.foldl g s) := by
  induction l generalizing s with
  | nil => exact .refl s
  | cons x l ih => exact (hg s x).trans (ih _)

end Sys2Proof.Machine
end

section
/-! SUPPORT. The events of the meters, the loads, the Line, the selectors and the supervisor keep the interlock law and the
ranges (01 to 08). -/

namespace Sys2Proof.Machine

variable {s t u : State}

/-! ## Building a `Keeps` -/

/-- The ranges speak of these items alone. -/
theorem State.RangeLaw.of_eq (h : s.RangeLaw) (et : t.settings = s.settings) (ed : t.doses = s.doses)
    (ec : t.circuits = s.circuits) (ew : t.waste = s.waste)
    (eo : ∀ p, (t.ports.get p).responses.length ≤ (s.ports.get p).responses.length) (ei : t.filters = s.filters)
    (ef : t.flow = s.flow) (eh : t.channels = s.channels) (en : t.line.clean = s.line.clean) : t.RangeLaw where
  settings := h.settings.of_eq et
  doses c := by rw [ed, et]; exact h.doses c
  demands c := by rw [ec]; exact h.demands c
  waste := by
    have k := h.waste
    unfold State.WasteLaw at k ⊢
    rw [ew, et]; exact k
  responses p := (eo p).trans (h.responses p)
  counters f := by rw [ei]; exact h.counters f
  bins c := by rw [ef]; exact h.bins c
  channels f := by rw [eh]; exact h.channels f
  volume r e := h.volume r (en ▸ e)
  holds f := by rw [ei]; exact h.holds f

/-- An update of what neither the interlock law nor the ranges speak of. -/
theorem Keeps.aside (ed : t.doses = s.doses) (ep : t.pathOpen = s.pathOpen) (ef : t.flow = s.flow)
    (es : t.stopActive = s.stopActive) (eb : t.bulkLow = s.bulkLow) (ec : t.circuits = s.circuits) (el : t.plant = s.plant)
    (et : t.settings = s.settings) (ew : t.waste = s.waste) (eo : t.ports = s.ports) (ei : t.filters = s.filters)
    (eh : t.channels = s.channels) (en : t.line.clean = s.line.clean) : Keeps s t := Keeps.intro
  (interlocks := fun h c => by
    rw [ed, h c]
    simp only [State.trueReasons, State.flowProven, ep, ef, es, eb, ec, el])
  (ranges := fun h => h.of_eq et ed ec ew (fun p => by rw [eo]) ei ef eh en)
  (room := fun p => by rw [eo])

/-- An update of one filter record. -/
theorem Keeps.updFilter (s : State) (f : FilterId) {g : FilterRecord → FilterRecord}
    (hr : (s.filters.get f).Ranged → (g (s.filters.get f)).Ranged)
    (hd : s.SettingsLaw → (s.filters.get f).dpTimer.Ranged → (g (s.filters.get f)).dpTimer.Ranged) :
    Keeps s (s.updFilter f g) := Keeps.intro
  (interlocks := fun h => h)
  (ranges := fun h =>
    { settings := h.settings, doses := h.doses, demands := h.demands, waste := h.waste, responses := h.responses,
      bins := h.bins, channels := h.channels, volume := h.volume, holds := h.holds.updFilter f (hd h.settings)
      counters := by
        intro q
        rw [State.updFilter_filters, Bank.get_set]
        split
        · exact hr (h.counters f)
        · exact h.counters q })
  (room := fun _ => Nat.le_refl _)

/-- An update of one Selector Channel. -/
theorem Keeps.updChannel (s : State) (f : FilterId) {g : Channel → Channel}
    (hr : (s.channels.get f).Ranged → (g (s.channels.get f)).Ranged) : Keeps s (s.updChannel f g) := Keeps.intro
  (interlocks := fun h => h)
  (ranges := fun h =>
    { settings := h.settings, doses := h.doses, demands := h.demands, waste := h.waste, responses := h.responses,
      counters := h.counters, bins := h.bins, volume := h.volume, holds := h.holds
      channels := by
        intro q
        rw [State.updChannel_channels, Bank.get_set]
        split
        · exact hr (h.channels f)
        · exact h.channels q })
  (room := fun _ => Nat.le_refl _)

/-- An update of one port that queues no response. -/
theorem Keeps.updPort (s : State) (p : PortId) {g : Port → Port}
    (hg : (g (s.ports.get p)).responses.length ≤ (s.ports.get p).responses.length) : Keeps s (s.updPort p g) := by
  have room : ∀ q, ((s.updPort p g).ports.get q).responses.length ≤ (s.ports.get q).responses.length := by
    intro q
    rw [State.updPort_ports, PerPort.get_set]
    split
    · next e => rw [e]; exact hg
    · exact Nat.le_refl _
  exact
    .intro (interlocks := fun h => h)
      (ranges := fun h =>
        { settings := h.settings, doses := h.doses, demands := h.demands, waste := h.waste, counters := h.counters,
          bins := h.bins, channels := h.channels, volume := h.volume, holds := h.holds
          responses := fun q => (room q).trans (h.responses q) })
      (room := room)

/-- An update of one Dose Channel but for its reasons. -/
theorem Keeps.updDose (s : State) (c : CircuitId) {g : DoseChannel → DoseChannel}
    (hr : (g (s.doses.get c)).reasons = (s.doses.get c).reasons)
    (hg : s.SettingsLaw → s.DoseLaw → (g (s.doses.get c)).accumulator < s.settings.strokeUnit c ∧
      (g (s.doses.get c)).owed ≤ Config.owedMax ∧ (g (s.doses.get c)).delivered ≤ Config.count32Max ∧
      (g (s.doses.get c)).shortfall ≤ Config.count16Max) : Keeps s (s.updDose c g) := Keeps.intro
  (interlocks := fun h d => by
    show ((s.doses.set c (g (s.doses.get c))).get d).reasons = s.trueReasons d
    rw [PerCircuit.get_set]
    split
    · next e => rw [hr, e]; exact h c
    · exact h d)
  (ranges := fun h =>
    { settings := h.settings, demands := h.demands, waste := h.waste, responses := h.responses,
      counters := h.counters, bins := h.bins, channels := h.channels, volume := h.volume, holds := h.holds
      doses := by
        intro d
        rw [State.updDose_doses, PerCircuit.get_set]
        split
        · next e => rw [e]; exact hg h.settings h.doses
        · exact h.doses d })
  (room := fun _ => Nat.le_refl _)

theorem Keeps.withDue (s : State) (d : Due) : Keeps s { s with due := d } :=
  .aside rfl rfl rfl rfl rfl rfl rfl rfl rfl rfl rfl rfl rfl

theorem Keeps.needPass (s : State) : Keeps s s.needPass := .withDue s _
theorem Keeps.needEval (s : State) : Keeps s s.needEval := .withDue s _
theorem Keeps.needGrant (s : State) : Keeps s s.needGrant := .withDue s _
theorem Keeps.filterChanged (s : State) : Keeps s s.filterChanged := .withDue s _

theorem Keeps.post (s : State) (p : PortId) (n : Notice) : Keeps s (s.post p n) := .updPort s p (Nat.le_refl _)

theorem Keeps.postTo (s : State) (c : Option CircuitId) (n : Notice) : Keeps s (s.postTo c n) := by
  cases c
  · exact .refl s
  · exact .post _ _ _

theorem Keeps.postAll (s : State) (n : Notice) : Keeps s (s.postAll n) := Keeps.foldl (fun t p => .post t p n) _ s

theorem Keeps.fileEntry (s : State) (f : FilterId) (r : Reasons) : Keeps s (s.fileEntry f r) :=
  ((Reacts.refl s).fileEntry f r).keeps fun h => (metered_persistent).fileEntry h f r

/-- A filter takes a new state: the counters stand, and a hold timer that starts runs for DP_HOLD. -/
theorem Keeps.moveFilter (s : State) (f : FilterId) (st : FilterState) {g : FilterRecord → FilterRecord}
    (hr : ∀ r : FilterRecord, r.Ranged → (g r).Ranged) : Keeps s (s.moveFilter f st g) := by
  refine (Keeps.updFilter s f (fun h => (hr _ h).enter _ _) fun hs _ => ?_).trans (.filterChanged _)
  unfold FilterRecord.enter
  split
  · dsimp only
    split
    · exact .running (hs.bounds .dpHold rfl)
    · exact .stopped
  · exact .stopped

/-- The end of a travel, whether or not the selector has a request. -/
theorem Keeps.endTravel (s : State) (f : FilterId) (o : TravelOutcome) : Keeps s (s.endTravel f o) := by
  by_cases h : s.Still f
  · have k : Keeps s (s.finishTravel f o) := by
      have e := Keeps.updChannel s f (g := fun ch => ch.ended o) fun x => x.ended o
      unfold State.finishTravel
      rw [h.request]
      dsimp only
      refine e.trans ?_
      exact .aside rfl rfl rfl rfl rfl rfl rfl rfl rfl rfl rfl rfl rfl
    exact k.trans ((Reacts.refl _).handOut.keeps (metered_persistent).handOut)
  · exact ((Reacts.refl s).endTravel o h).keeps fun k => (metered_persistent).endTravel k f o

/-! ## Forming reasons -/

theorem State.RangeLaw.formDose (h : s.RangeLaw) (c : CircuitId) {d : Nat} (r : Interlocks) (hd : d ≤ 1000) :
    (s.formDose c d r).RangeLaw where
  settings := h.settings.of_eq (by simp)
  doses := by
    intro e
    rw [State.formDose_doses, State.formDose_settings, PerCircuit.get_set]
    split
    · next k =>
      subst k
      obtain ⟨h1, h2, h3, h4⟩ := h.doses e
      exact ⟨Nat.lt_of_le_of_lt (DoseChannel.formedAccumulator_le _ _ _ _) h1,
        (DoseChannel.formedOwed_le _ _ _ _).trans h2, h3, h4⟩
    · exact h.doses e
  demands := by
    intro e
    rw [State.formDose_circuits, PerCircuit.get_set]
    split
    · exact ⟨(h.demands c).1, (h.demands c).2.1, hd⟩
    · exact h.demands e
  waste := by
    have k := h.waste
    unfold State.WasteLaw at k ⊢
    simpa using k
  responses p := by rw [(s.formDose_port_kept c d r p).responses]; exact h.responses p
  counters f := by rw [State.formDose_filters]; exact h.counters f
  bins c := by rw [State.formDose_flow]; exact h.bins c
  channels f := by rw [State.formDose_channels]; exact h.channels f
  volume x e := h.volume x (by simpa using e)
  holds f := by rw [State.formDose_filters]; exact h.holds f

theorem State.RangeLaw.formReasons (h : s.RangeLaw) (c : CircuitId) (g : Interlocks → Interlocks) :
    (s.formReasons c g).RangeLaw := h.formDose c _ (h.demands c).2.2

theorem State.RangeLaw.formAllReasons (h : s.RangeLaw) (g : Interlocks → Interlocks) : (s.formAllReasons g).RangeLaw := by
  unfold State.formAllReasons
  generalize allCircuits = l
  induction l generalizing s with
  | nil => exact h
  | cons c l ih => exact ih (h.formReasons c g)

theorem State.formReasons_room (s : State) (c : CircuitId) (g : Interlocks → Interlocks) (p : PortId) :
    ((s.formReasons c g).ports.get p).responses.length = (s.ports.get p).responses.length := by
  rw [State.formReasons, (s.formDose_port_kept c _ _ p).responses]

theorem State.formAllReasons_room (s : State) (g : Interlocks → Interlocks) (p : PortId) :
    ((s.formAllReasons g).ports.get p).responses.length = (s.ports.get p).responses.length := by
  simp [State.formAllReasons, allCircuits, State.formReasons_room]

theorem State.trueReasons_formReasons (s : State) (c d : CircuitId) (g : Interlocks → Interlocks) :
    (s.formReasons c g).trueReasons d = s.trueReasons d := by
  simp [State.trueReasons, State.flowProven]

theorem State.trueReasons_formAllReasons (s : State) (g : Interlocks → Interlocks) (d : CircuitId) :
    (s.formAllReasons g).trueReasons d = s.trueReasons d := by
  simp [State.trueReasons, State.flowProven]

/-- A change of one circuit's conditions that is formed at once. -/
theorem State.InterlockLaw.formReasons (h : s.InterlockLaw) (hd : u.doses = s.doses) {c : CircuitId}
    {g : Interlocks → Interlocks} (hc : g (s.trueReasons c) = u.trueReasons c)
    (ho : ∀ d, d ≠ c → u.trueReasons d = s.trueReasons d) : (u.formReasons c g).InterlockLaw := by
  intro d
  rw [State.formReasons_reasons, State.trueReasons_formReasons, hd]
  split
  · next e => rw [h c, hc, e]
  · next e => rw [h d, ho d e]

/-- A change of every circuit's conditions that is formed at once. -/
theorem State.InterlockLaw.formAllReasons (h : s.InterlockLaw) (hd : u.doses = s.doses) {g : Interlocks → Interlocks}
    (hc : ∀ c, g (s.trueReasons c) = u.trueReasons c) : (u.formAllReasons g).InterlockLaw := by
  intro d
  rw [State.formAllReasons_reasons, State.trueReasons_formAllReasons, hd, h d, hc d]

/-! ## Circuit flow (02) -/

theorem FlowRecord.Ranged.pulse {r : FlowRecord} (h : r.Ranged) (n : Nat) : (r.pulse n).Ranged :=
  ⟨Nat.min_le_right _ _, h.2, h.3⟩

/-- A change of one circuit's rate ring and flow-proof timer. -/
theorem State.RangeLaw.updFlow (h : s.RangeLaw) (c : CircuitId) {g : FlowRecord → FlowRecord}
    (hg : (s.flow.get c).Ranged → (g (s.flow.get c)).Ranged) : (s.updFlow c g).RangeLaw :=
  { settings := h.settings, doses := h.doses, demands := h.demands, waste := h.waste, responses := h.responses,
    counters := h.counters, channels := h.channels, volume := h.volume, holds := h.holds
    bins := by
      intro d
      rw [State.updFlow_flow, PerCircuit.get_set]
      split
      · exact hg (h.bins c)
      · exact h.bins d }

theorem State.trueReasons_updFlow (s : State) (c d : CircuitId) (g : FlowRecord → FlowRecord) :
    (s.updFlow c g).trueReasons d =
      if d = c then { s.trueReasons d with noFlow := !(g (s.flow.get c)).proven } else s.trueReasons d := by
  simp only [State.trueReasons, State.flowProven, State.updFlow_pathOpen, State.updFlow_flow, State.updFlow_stopActive,
    State.updFlow_bulkLow, State.updFlow_circuits, State.updFlow_plant, PerCircuit.get_set]
  split <;> simp_all

/-- A flow proof that changes with its record is delivered at once (02 R31). -/
theorem Keeps.deliverFlowProof (s : State) (c : CircuitId) {g : FlowRecord → FlowRecord} {b : Bool}
    (hg : (s.flow.get c).Ranged → (g (s.flow.get c)).Ranged) (hb : (g (s.flow.get c)).proven = b) :
    Keeps s ((s.updFlow c g).deliverFlowProof c b) := by
  have k : Keeps s ((s.updFlow c g).formReasons c fun r => { r with noFlow := !b }) :=
    .intro (interlocks := fun h => by
        refine State.InterlockLaw.formReasons (u := s.updFlow c g) h rfl ?_ fun d e => ?_
        · rw [State.trueReasons_updFlow, if_pos rfl, hb]
        · rw [State.trueReasons_updFlow, if_neg e])
      (ranges := fun h => (h.updFlow c hg).formReasons c _)
      (room := fun p => by rw [State.formReasons_room]; exact Nat.le_refl _)
  unfold State.deliverFlowProof
  exact (k.trans (.needEval _)).trans (.needGrant _)

theorem convertDose_bounds {unit : Nat} (hu : 0 < unit) {n a o : Nat} (ho : o ≤ Config.owedMax)
    (hn : Config.owedMax < n + o) :
    (convertDose unit n a o).1 < unit ∧ (convertDose unit n a o).2.1 ≤ Config.owedMax := by
  induction n generalizing a o with
  | zero => omega
  | succ n ih =>
    unfold convertDose
    split
    · exact ⟨by assumption, ho⟩
    · split
      · exact ih (by omega) (by omega)
      · exact ⟨by omega, ho⟩

theorem State.SettingsLaw.strokeUnit_pos (h : s.SettingsLaw) (c : CircuitId) : 0 < s.settings.strokeUnit c :=
  Nat.mul_pos (h.bounds (.strokeVolume c) rfl).1 (h.bounds .hypoStrength rfl).1

theorem DoseChannel.tryStroke_reasons (d : DoseChannel) (n : Nat) : (d.tryStroke n).reasons = d.reasons := by
  unfold DoseChannel.tryStroke
  split <;> rfl

theorem DoseChannel.tryStroke_ranged {d : DoseChannel} {unit : Nat} (n : Nat)
    (h : d.accumulator < unit ∧ d.owed ≤ Config.owedMax ∧ d.delivered ≤ Config.count32Max ∧
      d.shortfall ≤ Config.count16Max) :
    (d.tryStroke n).accumulator < unit ∧ (d.tryStroke n).owed ≤ Config.owedMax ∧
      (d.tryStroke n).delivered ≤ Config.count32Max ∧ (d.tryStroke n).shortfall ≤ Config.count16Max := by
  unfold DoseChannel.tryStroke
  split
  · exact ⟨h.1, (Nat.sub_le _ _).trans h.2.1, Nat.min_le_right _ _, h.2.2.2⟩
  · exact h

theorem DoseChannel.accumulate_ranged {d : DoseChannel} {unit : Nat} (amount : Nat) (hu : 0 < unit)
    (h : d.accumulator < unit ∧ d.owed ≤ Config.owedMax ∧ d.delivered ≤ Config.count32Max ∧
      d.shortfall ≤ Config.count16Max) :
    (d.accumulate unit amount).accumulator < unit ∧ (d.accumulate unit amount).owed ≤ Config.owedMax ∧
      (d.accumulate unit amount).delivered ≤ Config.count32Max ∧
      (d.accumulate unit amount).shortfall ≤ Config.count16Max := by
  have k := convertDose_bounds hu (a := d.accumulator + amount) (n := Config.owedMax + 1) h.2.1 (by omega)
  refine ⟨k.1, k.2, h.2.2.1, ?_⟩
  unfold DoseChannel.accumulate
  dsimp only
  split
  · exact Nat.min_le_right _ _
  · exact h.2.2.2

theorem Keeps.dosePulse (s : State) (c : CircuitId) : Keeps s (s.dosePulse c) := by
  unfold State.dosePulse
  split
  · dsimp only
    have k : Keeps s (s.updDose c fun d => (d.accumulate (s.settings.strokeUnit c)
        (s.settings.litresPerFlowPulse.get c * (s.circuits.get c).demand)).tryStroke (s.settings.pacingInterval c)) :=
      .updDose s c (DoseChannel.tryStroke_reasons _ _) fun hs hd =>
        DoseChannel.tryStroke_ranged _ (DoseChannel.accumulate_ranged _ (hs.strokeUnit_pos c) (hd c))
    split
    · exact k.trans (.post _ _ _)
    · exact k
  · exact .refl s

theorem Keeps.checkThroughput (s : State) (f : FilterId) : Keeps s (s.checkThroughput f) := by
  unfold State.checkThroughput
  split
  · exact .fileEntry _ _ _
  · exact .refl s

theorem Keeps.credit (s : State) (c : CircuitId) : Keeps s (s.credit c) := by
  unfold State.credit
  split
  · next f _ =>
    unfold State.creditTo
    dsimp only
    have k : Keeps s (State.updFilter { s with creditPointer := s.creditPointer.set c f } f fun r =>
        r.credited (s.settings.litresPerFlowPulse.get c)) := by
      refine Keeps.trans (t := { s with creditPointer := s.creditPointer.set c f }) ?_ (.updFilter _ f ?_ ?_)
      · exact .aside rfl rfl rfl rfl rfl rfl rfl rfl rfl rfl rfl rfl rfl
      · exact fun h => ⟨Nat.min_le_right _ _, h.2, (Nat.sub_le _ _).trans h.3, h.4⟩
      · exact fun _ h => h
    split
    · exact k.trans (.checkThroughput _ f)
    · exact k
  · exact .post _ _ _

theorem Keeps.raiseFlowMeter (s : State) (c : CircuitId) : Keeps s (s.raiseFlowMeter c) :=
  .aside rfl rfl rfl rfl rfl rfl rfl rfl rfl rfl rfl rfl rfl

theorem Keeps.flowPulse (s : State) (c : CircuitId) : Keeps s (s.flowPulse c) := by
  unfold State.flowPulse
  simp only [State.pulseFlowMeter_eq]
  refine (Keeps.raiseFlowMeter s c).trans (Keeps.trans ?_ ((Keeps.credit _ c).trans (.dosePulse _ c)))
  have ranged : ∀ h : ((s.raiseFlowMeter c).flow.get c).Ranged,
      (((s.raiseFlowMeter c).flow.get c).pulse s.settings.flowProofWindow).Ranged := fun h => h.pulse _
  split
  · next e =>
    -- flow proof stays: the record changes but not what it proves
    exact
      .intro (interlocks := fun h d => by
          rw [State.updFlow_doses, h d, State.trueReasons_updFlow]
          split
          · next k =>
            subst k
            have k : (s.raiseFlowMeter d).flowProven d = true := e
            simp [State.trueReasons, k, FlowRecord.pulse, FlowRecord.proven]
          · rfl)
        (ranges := fun h => h.updFlow c ranged)
        (room := fun _ => Nat.le_refl _)
  · exact Keeps.deliverFlowProof _ c ranged rfl

theorem Keeps.flowProofExpiry (s : State) (c : CircuitId) : Keeps s (s.flowProofExpiry c) := by
  unfold State.flowProofExpiry
  split
  · exact Keeps.deliverFlowProof s c (fun h => ⟨h.1, h.2, h.3⟩) rfl
  · exact .refl s

theorem FlowRecord.Ranged.rotate {r : FlowRecord} (h : r.Ranged) : r.rotate.Ranged where
  openBin := Nat.zero_le _
  length := by simp [FlowRecord.rotate, h.length]
  closed n m := by
    rcases List.mem_cons.1 m with rfl | m
    · exact h.openBin
    · exact h.closed n (List.mem_of_mem_take m)

theorem State.rotateBins_get (s : State) (c : CircuitId) : s.rotateBins.flow.get c = (s.flow.get c).rotate := by
  cases c <;> rfl

theorem Keeps.rotateBins (s : State) : Keeps s s.rotateBins := Keeps.intro
  (interlocks := fun h c => by
    rw [show s.rotateBins.doses = s.doses from rfl, h c]
    simp [State.trueReasons, State.flowProven, State.rotateBins_get, FlowRecord.proven, FlowRecord.rotate]
    exact ⟨rfl, rfl, rfl, rfl, rfl⟩)
  (ranges := fun h =>
    { settings := h.settings, doses := h.doses, demands := h.demands, waste := h.waste, responses := h.responses,
      counters := h.counters, channels := h.channels, volume := h.volume, holds := h.holds
      bins := fun c => by rw [State.rotateBins_get]; exact (h.bins c).rotate })
  (room := fun _ => Nat.le_refl _)

/-! ## Waste, loads and the Line (02, 03, 04) -/

/-- A change of the waste tank that keeps the allowance within the cap. -/
theorem Keeps.withWaste (s : State) (w : Waste) (hw : s.WasteLaw → w.allowance ≤ s.settings.wasteCap) :
    Keeps s { s with waste := w } :=
  ⟨id, fun h => { h with waste := hw h.waste }, fun _ => Nat.le_refl _⟩

theorem Keeps.spendWaste (s : State) : Keeps s s.spendWaste := by
  have k := Keeps.withWaste s { s.waste with allowance := s.waste.allowance - s.settings.litresPerWastePulse }
    fun h => (Nat.sub_le _ _).trans h
  unfold State.spendWaste
  dsimp only
  split
  all_goals
    split
    · exact k
    · exact k.trans (.post _ _ _)

theorem Keeps.wastePulse (s : State) : Keeps s s.wastePulse := by
  unfold State.wastePulse
  rw [State.pulseWasteMeter_eq]
  have k : Keeps s s.raiseWasteMeter := .aside rfl rfl rfl rfl rfl rfl rfl rfl rfl rfl rfl rfl rfl
  exact (k.trans (.spendWaste _)).trans ((Reacts.refl _).lineWastePulse.keeps State.Metered.lineWastePulse)

theorem Keeps.checkRunTime (s : State) (f : FilterId) : Keeps s (s.checkRunTime f) := by
  unfold State.checkRunTime
  split
  · exact .fileEntry _ _ _
  · exact .refl s

theorem Keeps.runTimeMinute (s : State) (f : FilterId) : Keeps s (s.runTimeMinute f) := by
  unfold State.runTimeMinute
  dsimp only
  split
  · have k : Keeps s (s.updFilter f fun r => { r with runTime := min (r.runTime + 1) Config.count16Max }) :=
      .updFilter s f (fun h => ⟨h.1, Nat.min_le_right _ _, h.3, h.4⟩) fun _ h => h
    split
    · exact k.trans (.checkRunTime _ f)
    · exact k
  · exact .refl s

theorem Keeps.recheck (s : State) (f : FilterId) : Keeps s (s.recheck f) := by
  unfold State.recheck
  split
  · exact (Keeps.checkThroughput s f).trans (.checkRunTime _ f)
  · exact .refl s

theorem FilterRecord.Ranged.dpSwitched {r : FilterRecord} (h : r.Ranged) (b : Bool) (n : Nat) : (r.dpSwitched b n).Ranged := by
  unfold FilterRecord.dpSwitched
  split
  · exact h
  · exact ⟨h.1, h.2, h.3, h.4⟩

theorem Keeps.dpSwitchChange (s : State) (f : FilterId) (b : Bool) :
    Keeps s (s.updFilter f fun r => r.dpSwitched b s.settings.dpHold) :=
  .updFilter s f (fun h => h.dpSwitched _ _) fun hs h => by
    unfold FilterRecord.dpSwitched
    split
    · exact h
    · dsimp only
      split
      · exact .running (hs.bounds .dpHold rfl)
      · exact .stopped

/-- Entry to FAULT of a filter already still in OUT_OF_USE keeps the laws too. -/
theorem Keeps.faultFilter_any (s : State) (f : FilterId) (kind : FaultKind) : Keeps s (s.faultFilter f kind) := by
  unfold State.faultFilter
  dsimp only
  split
  · exact .refl s
  · have cover : ∀ (t : State) (c : Option CircuitId), Keeps t (t.loseCover c) := fun t c =>
      ((Reacts.refl t).loseCover c).keeps fun h => (metered_persistent).loseCover h c
    have queue : ∀ (t : State) (q : List QueueEntry), Keeps t (t.setQueue q) := fun t q =>
      .aside rfl rfl rfl rfl rfl rfl rfl rfl rfl rfl rfl rfl rfl
    have k : Keeps s (s.moveFilter f .fault fun r => r.faulted kind) := .moveFilter s f .fault fun _ h => h.faulted kind
    refine Keeps.trans (Keeps.trans (Keeps.trans (Keeps.trans ?_ (queue _ _)) (.post _ _ _)) (.postTo _ _ _)) (.withDue _ _)
    split
    · exact k.trans (cover _ _)
    · exact k

theorem HoldTimer.Ranged.expire {n : Nat} (h : (HoldTimer.running n).Ranged) : (HoldTimer.expired n).Ranged := by
  rintro m (e | e) <;> cases e
  exact h _ (.inl rfl)

theorem Keeps.dpHoldExpiry (s : State) (f : FilterId) : Keeps s (s.dpHoldExpiry f) := by
  unfold State.dpHoldExpiry
  split
  · next n e =>
    have k : Keeps s (s.updFilter f fun r => { r with dpTimer := .expired n }) :=
      .updFilter s f (fun h => ⟨h.1, h.2, h.3, h.4⟩) fun _ h => (e ▸ h : (HoldTimer.running n).Ranged).expire
    dsimp only
    split
    · exact k.trans (.fileEntry _ _ _)
    · exact k.trans (.faultFilter_any _ _ _)
  all_goals exact .refl s

theorem Keeps.refill (s : State) : Keeps s s.refill :=
  (Keeps.withWaste s { s.waste with allowance := min (s.waste.allowance + s.settings.wasteRate) s.settings.wasteCap }
    fun _ => Nat.min_le_right _ _).trans (.withDue _ _)

theorem Keeps.lineLevel (s : State) : Keeps s s.lineLevel := (Reacts.refl s).lineLevel.keeps State.Metered.lineLevel

theorem Keeps.bwStartChange (s : State) (b : Bool) : Keeps s (s.bwStartChange b) := by
  unfold State.bwStartChange
  split
  · exact .refl s
  · have k := Keeps.withWaste s { s.waste with bwStart := b } id
    dsimp only
    split
    · exact (k.trans (.lineLevel _)).trans (.withDue _ _)
    · exact k

theorem Keeps.lowLowChange (s : State) (b : Bool) : Keeps s (s.lowLowChange b) := by
  unfold State.lowLowChange
  split
  · exact .refl s
  · have k := Keeps.withWaste s { s.waste with lowLow := b } id
    dsimp only
    split
    · exact k.trans ((Reacts.refl _).lineSuspend.keeps State.Metered.lineSuspend)
    · exact k.trans (.lineLevel _)

theorem Keeps.lineFlowExpiry (s : State) : Keeps s s.lineFlowExpiry := by
  by_cases h : s.line.clean = none
  · have e : s.lineFlowExpiry = s := by unfold State.lineFlowExpiry; rw [h]
    rw [e]; exact .refl s
  · obtain ⟨r, hs⟩ := Option.ne_none_iff_exists'.1 h
    have k : Keeps s s.lineUnavailable := by
      refine Keeps.trans (t := { s with line := { s.line with available := false } }) ?_ (.post _ _ _)
      exact .aside rfl rfl rfl rfl rfl rfl rfl rfl rfl rfl rfl rfl rfl
    have returns : ∀ x : LineRecord, x.filter = r.filter → x.counted = r.counted → Keeps s.lineUnavailable
        (s.lineUnavailable.beginReturning x) := fun x hf hc =>
      have hr : s.lineUnavailable.line.clean = some r := hs
      ((Reacts.refl _).beginReturning hr hf).keeps fun m => m.beginReturning (by rw [hc]; exact (m.volume r hr).1)
    unfold State.lineFlowExpiry
    rw [hs]
    dsimp only
    split
    · split <;> exact k.trans (returns _ rfl rfl)
    · exact .refl s

/-! ## The supervisor (05, 07, 08) -/

theorem Keeps.pauseMoving (s : State) : Keeps s s.pauseMoving :=
  Keeps.foldl (fun t f => .updChannel t f fun h => by
    split
    · exact h.pause
    · exact h) _ s

theorem Keeps.lineStop (s : State) : Keeps s s.lineStop := (Reacts.refl s).lineStop.keeps State.Metered.lineStop

theorem Keeps.formAllReasons {g : Interlocks → Interlocks} (hd : u.doses = s.doses)
    (hc : ∀ c, g (s.trueReasons c) = u.trueReasons c) (hr : s.RangeLaw → u.RangeLaw)
    (ho : ∀ p, (u.ports.get p).responses.length ≤ (s.ports.get p).responses.length) : Keeps s (u.formAllReasons g) := Keeps.intro
  (interlocks := fun h => h.formAllReasons hd hc)
  (ranges := fun h => (hr h).formAllReasons g)
  (room := fun p => by rw [State.formAllReasons_room]; exact ho p)

end Sys2Proof.Machine
end

section
/-! SUPPORT. The events of the selectors and of the supervisor keep the interlock law and the ranges (05 to 08). -/

namespace Sys2Proof.Machine

variable {s t u : State}

/-! ## The supervisor -/

theorem State.pauseMoving_frame (s : State) : ∃ cs, s.pauseMoving = { s with channels := cs } := by
  unfold State.pauseMoving
  generalize allFilters = l
  induction l generalizing s with
  | nil => exact ⟨_, rfl⟩
  | cons f l ih =>
    obtain ⟨cs, e⟩ := ih (s.updChannel f fun ch => if ch.state = .moving then ch.pause else ch)
    exact ⟨cs, e⟩

theorem State.postAll_frame (s : State) (n : Notice) : ∃ ps, s.postAll n = { s with ports := ps } := by
  unfold State.postAll
  generalize allPorts = l
  induction l generalizing s with
  | nil => exact ⟨_, rfl⟩
  | cons p l ih =>
    obtain ⟨ps, e⟩ := ih (s.post p n)
    exact ⟨ps, e⟩

/-- Forming reasons changes the Dose Channels and the ports alone. -/
theorem State.formReasons_frame (s : State) (c : CircuitId) (g : Interlocks → Interlocks) :
    ∃ ds ps, s.formReasons c g = { s with doses := ds, ports := ps } := by
  have e : (s.updCircuit c fun k => { k with demand := (s.circuits.get c).demand }) = s := by
    show { s with circuits := s.circuits.set c (s.circuits.get c) } = s
    rw [PerCircuit.set_get]
  unfold State.formReasons State.formDose
  dsimp only
  rw [e]
  split <;> exact ⟨_, _, rfl⟩

theorem State.formAllReasons_frame (s : State) (g : Interlocks → Interlocks) :
    ∃ ds ps, s.formAllReasons g = { s with doses := ds, ports := ps } := by
  unfold State.formAllReasons
  generalize allCircuits = l
  induction l generalizing s with
  | nil => exact ⟨_, _, rfl⟩
  | cons c l ih =>
    obtain ⟨ds, ps, e⟩ := s.formReasons_frame c g
    obtain ⟨ds', ps', e'⟩ := ih (s.formReasons c g)
    refine ⟨ds', ps', ?_⟩
    rw [List.foldl_cons, e', e]

theorem State.lineStop_frame (s : State) : ∃ l, s.lineStop = { s with line := l } := by
  unfold State.lineStop
  split
  · exact ⟨_, rfl⟩
  · split <;> exact ⟨_, rfl⟩

/-- Plant stop sets its reason at once (07 R146). -/
theorem Keeps.stopPlant (s : State) : Keeps s s.stopPlant := by
  have k : Keeps { s with stopActive := true } (State.postAll { s with stopActive := true } .plantStopped).pauseMoving.lineStop :=
    ((Keeps.postAll _ _).trans (.pauseMoving _)).trans (.lineStop _)
  unfold State.stopPlant
  obtain ⟨ps, e1⟩ := State.postAll_frame { s with stopActive := true } .plantStopped
  obtain ⟨cs, e2⟩ := State.pauseMoving_frame (State.postAll { s with stopActive := true } .plantStopped)
  obtain ⟨l, e3⟩ := State.lineStop_frame (State.postAll { s with stopActive := true } .plantStopped).pauseMoving
  rw [e2, e1] at e3
  dsimp only at e3 ⊢
  rw [e2, e1] at k ⊢
  rw [e3] at k ⊢
  refine Keeps.formAllReasons (s := s) rfl (fun c => rfl) (fun h => k.ranges ?_) k.room
  exact h.of_eq rfl rfl rfl rfl (fun _ => Nat.le_refl _) rfl rfl rfl rfl

theorem Keeps.stopOpens (s : State) : Keeps s s.stopOpens := by
  unfold State.stopOpens
  split
  · exact .aside rfl rfl rfl rfl rfl rfl rfl rfl rfl rfl rfl rfl rfl
  · split
    · exact .refl s
    · exact .stopPlant s

theorem Keeps.resumeAll (s : State) : Keeps s s.resumeAll := (Reacts.refl s).resumeAll.keeps (metered_persistent).resumeAll
theorem Keeps.lineRecover (s : State) : Keeps s s.lineRecover := (Reacts.refl s).lineRecover.keeps State.Metered.lineRecover
theorem Keeps.takePass (s : State) : Keeps s s.takePass := (Reacts.refl s).takePass.keeps (metered_persistent).takePass

theorem Keeps.release (s : State) (o : ReleaseOrder) : Keeps s (s.release o) := by
  cases o
  · exact ((Keeps.resumeAll _).trans (.lineRecover _)).trans (.takePass _)
  · exact ((Keeps.resumeAll _).trans (.takePass _)).trans (.lineRecover _)
  · exact ((Keeps.lineRecover _).trans (.resumeAll _)).trans (.takePass _)
  · exact ((Keeps.lineRecover _).trans (.takePass _)).trans (.resumeAll _)
  · exact ((Keeps.takePass _).trans (.resumeAll _)).trans (.lineRecover _)
  · exact ((Keeps.takePass _).trans (.lineRecover _)).trans (.resumeAll _)

/-- PLANT_STOP leaves every channel with the condition (08 R163). -/
theorem Keeps.stopReleased (s : State) (n : Nat) {ps : PerPort Port}
    (ho : ∀ p, (ps.get p).responses.length ≤ (s.ports.get p).responses.length) :
    Keeps s (State.formAllReasons { s with stopActive := false, stopRead := true, free := n, ports := ps }
      fun r => { r with plantStop := false }) :=
  Keeps.formAllReasons (u := { s with stopActive := false, stopRead := true, free := n, ports := ps }) rfl (fun _ => rfl)
    (fun h => h.of_eq rfl rfl rfl rfl ho rfl rfl rfl rfl) ho

theorem Keeps.releasePlant (s : State) : Keeps s s.releasePlant := by
  obtain ⟨ps, e⟩ := State.postAll_frame { s with stopActive := false, stopRead := true, free := s.free + 1 } .plantReleased
  have room := (Keeps.postAll { s with stopActive := false, stopRead := true, free := s.free + 1 } .plantReleased).room
  rw [e] at room
  have k : ∀ b : Bool, Keeps s (State.formAllReasons
      (if b then State.postAll { s with stopActive := false, stopRead := true, free := s.free + 1 } .plantReleased
        else { s with stopActive := false, stopRead := true, free := s.free + 1 })
      fun r => { r with plantStop := false }) := by
    intro b
    cases b
    · exact Keeps.stopReleased s (s.free + 1) (ps := s.ports) fun _ => Nat.le_refl _
    · rw [if_pos rfl, e]
      exact Keeps.stopReleased s (s.free + 1) room
  exact ((k s.stopRead).trans (.release _ _)).trans (.filterChanged _)

theorem Keeps.stopCloses (s : State) : Keeps s s.stopCloses := by
  unfold State.stopCloses
  split
  · exact .releasePlant s
  · exact .refl s

theorem Keeps.surgeChange (s : State) (b : Bool) : Keeps s (s.surgeChange b) := by
  have k : ∀ b, Keeps s { s with surge := b } := fun b => .aside rfl rfl rfl rfl rfl rfl rfl rfl rfl rfl rfl rfl rfl
  unfold State.surgeChange
  split
  · exact .refl s
  · split
    · exact k true
    · exact (k false).trans (.resumeAll _)

theorem Keeps.bulkLowChange (s : State) (b : Bool) : Keeps s (s.bulkLowChange b) := by
  have k : Keeps s (State.formAllReasons { s with bulkLow := b } fun r => { r with bulkEmpty := b }) :=
    Keeps.formAllReasons rfl (fun _ => rfl)
      (fun h => h.of_eq rfl rfl rfl rfl (fun _ => Nat.le_refl _) rfl rfl rfl rfl) fun _ => Nat.le_refl _
  unfold State.bulkLowChange
  split
  · exact .refl s
  · dsimp only
    split
    · exact k.trans (.post _ _ _)
    · exact k

/-- A circuit record changed but for W, M and D. -/
theorem State.RangeLaw.updCircuit (h : s.RangeLaw) (c : CircuitId) {g : CircuitRecord → CircuitRecord}
    (hg : ∀ r : CircuitRecord, r.minimum ≤ r.wanted ∧ r.wanted ≤ 6 ∧ r.demand ≤ 1000 →
      (g r).minimum ≤ (g r).wanted ∧ (g r).wanted ≤ 6 ∧ (g r).demand ≤ 1000) : (s.updCircuit c g).RangeLaw :=
  { settings := h.settings, doses := h.doses, waste := h.waste, responses := h.responses, counters := h.counters,
    bins := h.bins, channels := h.channels, volume := h.volume, holds := h.holds
    demands := by
      intro d
      rw [State.updCircuit_circuits, PerCircuit.get_set]
      split
      · exact hg _ (h.demands c)
      · exact h.demands d }

theorem State.trueReasons_updCircuit (s : State) (c d : CircuitId) (g : CircuitRecord → CircuitRecord) :
    (s.updCircuit c g).trueReasons d =
      if d = c then { s.trueReasons d with
        unconfirmed := !(g (s.circuits.get c)).attended || !(g (s.circuits.get c)).confirmed }
      else s.trueReasons d := by
  simp only [State.trueReasons, State.flowProven, State.updCircuit_pathOpen, State.updCircuit_flow,
    State.updCircuit_stopActive, State.updCircuit_bulkLow, State.updCircuit_circuits, State.updCircuit_plant,
    PerCircuit.get_set]
  split <;> simp_all

/-- A circuit record changed but for what it confirms. -/
theorem Keeps.updCircuit (s : State) (c : CircuitId) {g : CircuitRecord → CircuitRecord}
    (hc : ∀ r, (g r).attended = r.attended ∧ (g r).confirmed = r.confirmed)
    (hg : ∀ r : CircuitRecord, r.minimum ≤ r.wanted ∧ r.wanted ≤ 6 ∧ r.demand ≤ 1000 →
      (g r).minimum ≤ (g r).wanted ∧ (g r).wanted ≤ 6 ∧ (g r).demand ≤ 1000) : Keeps s (s.updCircuit c g) := Keeps.intro
  (interlocks := fun h d => by
    rw [State.updCircuit_doses, h d, State.trueReasons_updCircuit, (hc _).1, (hc _).2]
    split
    · next e => subst e; rfl
    · rfl)
  (ranges := fun h => h.updCircuit c hg)
  (room := fun _ => Nat.le_refl _)

/-- A change of attendance or confirmation forms UNCONFIRMED at once (07 R148). -/
theorem Keeps.formUnconfirmed (s : State) (c : CircuitId) {g : CircuitRecord → CircuitRecord}
    (hg : ∀ r : CircuitRecord, r.minimum ≤ r.wanted ∧ r.wanted ≤ 6 ∧ r.demand ≤ 1000 →
      (g r).minimum ≤ (g r).wanted ∧ (g r).wanted ≤ 6 ∧ (g r).demand ≤ 1000) :
    Keeps s ((s.updCircuit c g).formUnconfirmed c) := Keeps.intro
  (interlocks := fun h => by
    unfold State.formUnconfirmed
    refine State.InterlockLaw.formReasons (u := s.updCircuit c g) h rfl ?_ fun d e => ?_
    · rw [State.trueReasons_updCircuit, if_pos rfl, State.updCircuit_circuits, PerCircuit.get_set_same]
    · rw [State.trueReasons_updCircuit, if_neg e])
  (ranges := fun h => (h.updCircuit c hg).formReasons c _)
  (room := fun p => (State.formReasons_room ..).le)

theorem Keeps.silenceExpiry (s : State) (c : CircuitId) : Keeps s (s.silenceExpiry c) := by
  unfold State.silenceExpiry
  dsimp only
  split
  · have k := Keeps.formUnconfirmed (s.post .plant .unattended) c
      (g := fun k => { k with attended := false, confirmed := false, silence := none }) fun _ h => h
    exact ((Keeps.post s .plant .unattended).trans k).trans (.filterChanged _)
  · exact .refl s

theorem Keeps.heardFrom (s : State) (c : CircuitId) : Keeps s (s.heardFrom c) := by
  unfold State.heardFrom
  dsimp only
  split
  · exact .updCircuit s c (fun _ => ⟨rfl, rfl⟩) fun _ h => h
  · have k := Keeps.formUnconfirmed s c
      (g := fun k => { k with attended := true, confirmed := false, silence := some s.settings.silenceLimit }) fun _ h => h
    exact (k.trans (.filterChanged _)).trans (.finishEvent _)

theorem Keeps.pacingExpiry (s : State) (c : CircuitId) : Keeps s (s.pacingExpiry c) := by
  unfold State.pacingExpiry
  split
  · refine .updDose s c ?_ fun _ h => ?_
    · dsimp only
      split
      · rw [DoseChannel.tryStroke_reasons]
      · rfl
    · dsimp only
      split
      · exact DoseChannel.tryStroke_ranged _ (h c)
      · exact h c
  · exact .refl s

theorem Keeps.strokeExpiry (s : State) (c : CircuitId) : Keeps s (s.updDose c fun d => { d with stroke := false }) :=
  .updDose s c rfl fun _ h => h c

/-! ## The selectors -/

theorem State.not_still_of_request {f : FilterId} {r : TravelRequest} (h : s.requests.get f = some r) : ¬ s.Still f :=
  fun x => by rw [x.request] at h; cases h

theorem Keeps.handOut (s : State) : Keeps s s.handOut := (Reacts.refl s).handOut.keeps (metered_persistent).handOut

theorem Keeps.afterStart (s : State) {f : FilterId} {x : Channel × Option TravelOutcome} (hn : ¬ s.Still f)
    (hx : (s.channels.get f).Started x) : Keeps s (s.afterStart f x) :=
  ((Reacts.refl s).afterStart hn hx).keeps fun h => (metered_persistent).afterStart h f x

theorem Keeps.startTravel (s : State) {f : FilterId} (stop : Stop) (hn : ¬ s.Still f) : Keeps s (s.startTravel f stop) :=
  .afterStart s hn (Channel.start_started _ _ _)

theorem Keeps.enterSettling (s : State) {f : FilterId} (stop : Stop) (hn : ¬ s.Still f) :
    Keeps s (s.enterSettling f stop) :=
  ((Reacts.refl s).enterSettling stop hn).keeps fun h => (metered_persistent).enterSettling h f stop

theorem Keeps.seatConfirmed (s : State) (f : FilterId) : Keeps s (s.seatConfirmed f) := by
  rcases h : s.requests.get f with _ | r
  · unfold State.seatConfirmed
    rw [h]
    exact .refl s
  · exact ((Reacts.refl s).seatConfirmed (State.not_still_of_request h)).keeps fun k =>
      (metered_persistent).seatConfirmed k f

theorem Keeps.dwellExpiry (s : State) (f : FilterId) : Keeps s (s.dwellExpiry f) := by
  unfold State.dwellExpiry
  split
  · exact .refl s
  · next r h =>
    dsimp only
    split
    · exact (Keeps.afterStart s (State.not_still_of_request h) (Channel.afterDwell_started _ _ _)).trans (.handOut _)
    · exact .refl s

theorem advance_lt (d : Dir) (p n : Nat) : advance d p n < Config.revolution := by
  cases d <;> exact Nat.mod_lt _ (by decide)

theorem Channel.Ranged.emit {ch : Channel} (h : ch.Ranged) (d : Dir) (v n : Nat) {residue : Nat} (hr : residue < 100) :
    (ch.emit d v n residue).Ranged where
  position p e := by
    obtain ⟨q, -, rfl⟩ := Option.map_eq_some_iff.1 e
    exact advance_lt _ _ _
  residue := hr
  creep := (Nat.sub_le _ _).trans h.creep
  copied := h.copied
  search := h.search

theorem Channel.dueResidue_lt (ch : Channel) (v : Nat) : ch.dueResidue v < 100 := Nat.mod_lt _ (by decide)

theorem Channel.Ranged.homingStep {ch : Channel} (h : ch.Ranged) (n : Nat) : (ch.homingStep n).Ranged :=
  have k := h.emit .cw ch.profile.startSpeed n (ch.dueResidue_lt _)
  ⟨k.position, k.residue, k.creep, k.copied, Nat.min_le_right _ _⟩

theorem Keeps.emit (s : State) (f : FilterId) (v n : Nat) :
    Keeps s (s.updChannel f fun ch => ch.emit ch.turning v n (ch.dueResidue v)) :=
  .updChannel s f fun h => h.emit _ _ _ (Channel.dueResidue_lt _ _)

theorem Keeps.emitTowards (s : State) {f : FilterId} {r : TravelRequest} (h : s.requests.get f = some r) (v cap : Nat)
    (stop : Stop) : Keeps s (s.emitTowards f v cap stop) := by
  unfold State.emitTowards
  have k : ∀ v n w, w < 100 → Keeps s (s.updChannel f fun ch => ch.emit ch.turning v n (ch.dueResidue v)) :=
    fun v n _ _ => .emit s f v n
  dsimp only
  split
  · exact ((Keeps.emit s f v _).trans (.enterSettling _ stop (State.not_still_of_request (by exact h)))).trans (.handOut _)
  · exact .emit s f v _

theorem Keeps.pause (s : State) (f : FilterId) : Keeps s (s.updChannel f Channel.pause) := .updChannel s f fun h => h.pause

theorem Keeps.travelInterval (s : State) {f : FilterId} {r : TravelRequest} (h : s.requests.get f = some r) (stop : Stop) :
    Keeps s (s.travelInterval f stop) := by
  have latch : Keeps s (s.latchSlow f) ∧ (s.latchSlow f).requests.get f = some r := by
    unfold State.latchSlow
    split
    · exact ⟨.updChannel s f fun x => ⟨x.1, x.2, x.3, x.4, x.5⟩, h⟩
    · exact ⟨.refl s, h⟩
  obtain ⟨k, hl⟩ := latch
  unfold State.travelInterval
  generalize s.latchSlow f = t at k hl
  have hn := State.not_still_of_request hl
  dsimp only
  split
  · exact k
  · next p _ =>
    refine k.trans ?_
    split
    · exact (Keeps.enterSettling t stop hn).trans (.handOut _)
    · split
      · unfold State.surgeInterval
        dsimp only
        split
        · split
          · exact .emit t f _ _
          · exact .emitTowards t hl _ _ _
        · exact .pause t f
      · split
        · unfold State.overrunInterval
          dsimp only
          split
          · exact .emit t f _ _
          · split
            · exact (Keeps.enterSettling t stop hn).trans (.handOut _)
            · exact (Keeps.startTravel t stop hn).trans (.handOut _)
        · exact .emitTowards t hl _ _ _

theorem Keeps.homingInterval (s : State) {f : FilterId} {r : TravelRequest} (h : s.requests.get f = some r)
    (phase : HomingPhase) : Keeps s (s.homingInterval f phase) := by
  have step : ∀ n : Channel → Nat, Keeps s (s.updChannel f fun ch => ch.homingStep (n ch)) :=
    fun n => .updChannel s f fun x => x.homingStep _
  have search : Keeps s (s.searchInterval f) := by
    unfold State.searchInterval
    dsimp only
    split
    · exact (step _).trans (.endTravel _ _ _)
    · exact step _
  unfold State.homingInterval
  split
  · exact .pause s f
  · split
    · unfold State.approachInterval
      dsimp only
      split
      · exact ((step fun _ => _).trans (.enterSettling _ _ (State.not_still_of_request (by exact h)))).trans (.handOut _)
      · exact step fun _ => _
    · exact .refl s
    · exact search
    · exact search

theorem Keeps.profileInterval (s : State) (f : FilterId) : Keeps s (s.profileInterval f) := by
  unfold State.profileInterval
  split
  · exact .refl s
  · next r h =>
    split
    · split
      · exact .homingInterval s h _
      · exact .travelInterval s h _
    · exact .refl s

theorem Keeps.torqueChange (s : State) (f : FilterId) (d : Dir) (b : Bool) : Keeps s (s.torqueChange f d b) := by
  have k : Keeps s (s.updChannel f fun ch => ch.setTorque d b) :=
    .updChannel s f fun x => by cases d <;> exact ⟨x.1, x.2, x.3, x.4, x.5⟩
  unfold State.torqueChange
  dsimp only
  split
  · exact k.trans (.endTravel _ _ _)
  · exact k

theorem Keeps.detentClose (s : State) (f : FilterId) : Keeps s (s.detentClose f) := by
  have k : Keeps s (s.updChannel f fun ch => { ch with detent := true }) :=
    .updChannel s f fun x => ⟨x.1, x.2, x.3, x.4, x.5⟩
  unfold State.detentClose
  dsimp only
  split
  · exact (k.trans (.seatConfirmed _ f)).trans (.handOut _)
  · exact k

theorem Keeps.settleTimeout (s : State) (f : FilterId) : Keeps s (s.settleTimeout f) := by
  unfold State.settleTimeout
  dsimp only
  split
  · exact .endTravel _ _ _
  · exact .refl s

theorem Keeps.lossAtRest (s : State) (f : FilterId) : Keeps s (s.lossAtRest f) := by
  have k : Keeps s (s.updChannel f fun ch => { ch with state := .faulted, position := none, seated := false }) :=
    .updChannel s f fun x => ⟨fun _ e => (nomatch e), x.2, x.3, x.4, x.5⟩
  unfold State.lossAtRest
  dsimp only
  split
  · refine k.trans ?_
    unfold State.lineDetentLoss
    split
    · exact .refl _
    · next r hs =>
      split
      · exact ((Reacts.refl _).faultClean hs _).keeps fun m => (metered_persistent).faultClean m hs _
      · exact .refl _
  · refine k.trans ?_
    unfold State.filterDetentLoss
    split
    any_goals exact .faultFilter_any _ _ _
    all_goals exact .refl _

theorem Keeps.detentOpen (s : State) (f : FilterId) : Keeps s (s.detentOpen f) := by
  have k : Keeps s (s.updChannel f fun ch => { ch with detent := false }) :=
    .updChannel s f fun x => ⟨x.1, x.2, x.3, x.4, x.5⟩
  unfold State.detentOpen
  dsimp only
  split
  · split
    · exact k.trans (.lossAtRest _ f)
    any_goals exact k.trans (.endTravel _ _ _)
    all_goals exact k
  · exact k

theorem Channel.Ranged.withEdge {ch : Channel} (h : ch.Ranged) (e : Option EdgeRecord) : ({ ch with edge := e } : Channel).Ranged :=
  ⟨h.1, h.2, h.3, h.4, h.5⟩

theorem Keeps.homeEdgeFails (s : State) (f : FilterId) : Keeps s (s.homeEdgeFails f) := by
  have k : Keeps s (s.updChannel f fun ch => { ch with edge := none }) := .updChannel s f fun x => x.withEdge _
  unfold State.homeEdgeFails
  dsimp only
  split
  · exact k.trans (.endTravel _ _ _)
  · exact k

theorem Keeps.homeFlagGoes (s : State) (f : FilterId) (b : Bool) : Keeps s (s.homeFlagGoes f b) := by
  unfold State.homeFlagGoes
  split
  · exact .homeEdgeFails s f
  · exact .refl s

theorem Keeps.homeEdgeRaw (s : State) (f : FilterId) (b : Bool) : Keeps s (s.homeEdgeRaw f b) :=
  (Keeps.homeFlagGoes s f b).trans (.updChannel _ f fun x => by
    unfold Channel.rawEdge
    split
    · exact x.withEdge _
    · exact x)

theorem corrected_lt (p : Nat) (x : Int) : corrected p x < Config.revolution := by
  unfold corrected Config.revolution
  omega

theorem Keeps.resync (s : State) {f : FilterId} {r : TravelRequest} (h : s.requests.get f = some r) (stop : Stop)
    (e : EdgeRecord) : Keeps s (s.resync f stop e) := by
  unfold State.resync
  dsimp only
  split
  · split
    · next p _ _ _ =>
      have k : ∀ q x, Keeps s (s.updChannel f fun ch => { ch with position := some (corrected q x) }) := fun q x =>
        .updChannel s f fun y => ⟨fun _ e => by cases e; exact corrected_lt _ _, y.2, y.3, y.4, y.5⟩
      split
      · exact ((k _ _).trans (.enterSettling _ _ (State.not_still_of_request (by exact h)))).trans (.handOut _)
      · exact k _ _
    · exact .endTravel _ _ _
  · exact .refl s

theorem Keeps.homeFound (s : State) {f : FilterId} {r : TravelRequest} (h : s.requests.get f = some r)
    (e : EdgeRecord) : Keeps s (s.homeFound f e) := by
  have k : Keeps s (s.updChannel f fun ch =>
      { ch with position := some ((1595 + e.steps) % Config.revolution), homing := some .approach, search := 0 }) :=
    .updChannel s f fun y => ⟨fun _ e => by cases e; exact Nat.mod_lt _ (by decide), y.2, y.3, y.4, Nat.zero_le _⟩
  have m : ∀ t : State, Keeps t (t.updChannel f fun ch => { ch with homing := none, speed := 0, residue := 0 }) :=
    fun t => .updChannel t f fun y => ⟨y.1, by simp, y.3, y.4, y.5⟩
  unfold State.homeFound
  dsimp only
  split
  · exact k
  · split
    · exact (k.trans (.enterSettling _ _ (State.not_still_of_request (by exact h)))).trans (.handOut _)
    · split
      · exact ((k.trans (m _)).trans (.startTravel _ _ (State.not_still_of_request (by exact h)))).trans (.handOut _)
      · exact k.trans (m _)

theorem Keeps.takeRise (s : State) (f : FilterId) (e : EdgeRecord) : Keeps s (s.takeRise f e) := by
  unfold State.takeRise
  split
  · exact .refl s
  · next h =>
    split
    · split
      · exact .homeFound s h e
      · exact .resync s h _ e
      all_goals exact .refl s
    · exact .refl s

theorem Keeps.homeEdgeConfirmed (s : State) (f : FilterId) (b : Bool) : Keeps s (s.homeEdgeConfirmed f b) := by
  have k : Keeps s ((s.updChannel f fun ch => { ch with home := b }).homeFlagGoes f b) :=
    (Keeps.updChannel s f fun x => ⟨x.1, x.2, x.3, x.4, x.5⟩).trans (.homeFlagGoes _ f b)
  unfold State.homeEdgeConfirmed
  generalize (s.updChannel f fun ch => { ch with home := b }).homeFlagGoes f b = u at k
  have m : Keeps s (u.updChannel f fun ch => { ch with edge := none }) := k.trans (.updChannel u f fun x => x.withEdge _)
  dsimp only
  split
  · split
    · exact m
    · exact m.trans (.takeRise _ f _)
  · refine m.trans ?_
    unfold State.takeFall
    split
    · exact .updChannel _ f fun x => ⟨x.1, x.2, x.3, x.4, Nat.zero_le _⟩
    · exact .refl _

end Sys2Proof.Machine
end

section
/-! SUPPORT. The requests keep the interlock law and the ranges (08, 10, 11). -/

namespace Sys2Proof.Machine

variable {s t u : State}

/-! ## Circuit demands (08) -/

theorem Keeps.storeDemand (s : State) (c : CircuitId) {w m : Nat} (hm : m ≤ w) (hw : w ≤ 6) :
    Keeps s (s.storeDemand c w m) := by
  have k : Keeps s (s.updCircuit c fun k => { k with wanted := w, minimum := m }) :=
    .updCircuit s c (fun _ => ⟨rfl, rfl⟩) fun _ h => ⟨hm, hw, h.2.2⟩
  unfold State.storeDemand
  dsimp only
  split
  · exact .refl s
  · exact ((k.trans (.needPass _)).trans (.needEval _)).trans (.needGrant _)

theorem Keeps.takeSetDemand (s : State) (p : PortId) (ps : List Byte) : Keeps s (s.takeSetDemand p ps).state := by
  unfold State.takeSetDemand
  split
  · split
    · exact .refl s
    · split
      · exact .storeDemand s _ (Nat.min_le_right _ _) (Nat.min_le_right _ _)
      · exact .refl s
  · exact .refl s

/-- D is formed again with the reasons as they stand (07 R134). -/
theorem Keeps.formDose (s : State) (c : CircuitId) {d : Nat} (hd : s.RangeLaw → d ≤ 1000) :
    Keeps s (s.formDose c d (s.doses.get c).reasons) := Keeps.intro
  (interlocks := fun h e => by
    rw [State.formDose_doses, PerCircuit.get_set]
    have k : (s.formDose c d (s.doses.get c).reasons).trueReasons e = s.trueReasons e := by
      simp only [State.trueReasons, State.flowProven, State.formDose_pathOpen, State.formDose_flow,
        State.formDose_stopActive, State.formDose_bulkLow, State.formDose_plant, State.formDose_circuits,
        PerCircuit.get_set]
      split <;> simp_all
    rw [k]
    split
    · next e' => rw [e']; exact h c
    · exact h e)
  (ranges := fun h => h.formDose c _ (hd h))
  (room := fun p => by rw [(s.formDose_port_kept c _ _ p).responses])

theorem Keeps.reclamp (s : State) (c : CircuitId) : Keeps s (s.reclamp c) := by
  unfold State.reclamp
  dsimp only
  split
  · next k => exact (Keeps.formDose s c fun h => by have := (h.demands c).2.2; omega).trans (.needGrant _)
  · exact .refl s

theorem Keeps.storeMode (s : State) (c : CircuitId) (m : Mode) : Keeps s (s.storeMode c m) := by
  have k : Keeps s (s.updCircuit c fun k => { k with mode := m }) :=
    .updCircuit s c (fun _ => ⟨rfl, rfl⟩) fun _ h => h
  unfold State.storeMode
  split
  · exact .refl s
  · exact ((k.trans (.reclamp _ c)).trans (.needEval _)).trans (.needGrant _)

theorem Keeps.takeSetMode (s : State) (p : PortId) (ps : List Byte) : Keeps s (s.takeSetMode p ps).state := by
  unfold State.takeSetMode
  split
  · split
    · exact .refl s
    · split
      · split
        · exact .refl s
        · exact .storeMode s _ _
      · exact .refl s
  · exact .refl s

theorem State.SettingsLaw.cap_le (h : s.SettingsLaw) (m : Mode) : s.settings.cap m ≤ 1000 := by
  unfold Settings.cap
  split
  · exact (h.bounds .shockDoseCap rfl).2
  · exact (h.bounds .doseCap rfl).2

/-- The circuit record confirms and its channel forms UNCONFIRMED in one event (08 R158, 07 R150). -/
theorem Keeps.storeDose (s : State) (c : CircuitId) {d : Nat} (hd : s.RangeLaw → d ≤ 1000) : Keeps s (s.storeDose c d) := by
  have k : Keeps s ((s.updCircuit c fun k => { k with confirmed := true }).formDose c d
      { (s.doses.get c).reasons with unconfirmed := !(s.circuits.get c).attended }) :=
    .intro (interlocks := fun h e => by
        rw [State.formDose_doses, PerCircuit.get_set]
        simp only [State.trueReasons, State.flowProven, State.formDose_pathOpen, State.formDose_flow,
          State.formDose_stopActive, State.formDose_bulkLow, State.formDose_plant, State.formDose_circuits,
          State.updCircuit_pathOpen, State.updCircuit_flow, State.updCircuit_stopActive, State.updCircuit_bulkLow,
          State.updCircuit_circuits, State.updCircuit_plant, PerCircuit.get_set]
        split
        · next e' => subst e'; simp [h e, State.trueReasons, State.flowProven]
        · exact h e)
      (ranges := fun h => by
        refine State.RangeLaw.formDose ?_ c _ (hd h)
        exact h.updCircuit c fun _ x => x)
      (room := fun p => by rw [(State.formDose_port_kept _ c _ _ p).responses]; exact Nat.le_refl _)
  unfold State.storeDose
  dsimp only
  split
  · exact k
  · exact k.trans (.needGrant _)

theorem Keeps.takeSetDose (s : State) (p : PortId) (ps : List Byte) : Keeps s (s.takeSetDose p ps).state := by
  unfold State.takeSetDose
  split
  · split
    · exact .refl s
    · split
      · exact .storeDose s _ fun h => (Nat.min_le_right _ _).trans (h.settings.cap_le _)
      · exact .refl s
  · exact .refl s

/-! ## Backwash requests, reads and ports (03, 04, 09, 10) -/

theorem Keeps.takeRequestBackwash (s : State) (p : PortId) (ps : List Byte) : Keeps s (s.takeRequestBackwash p ps).state := by
  unfold State.takeRequestBackwash
  split
  · split
    · exact .refl s
    · unfold State.requestBackwash
      dsimp only
      split
      · exact .refl s
      · split
        · exact .refl s
        · split
          · exact .refl s
          · exact .fileEntry s _ _
  · exact .refl s

theorem Keeps.dropEntry (s : State) (f : FilterId) : Keeps s (s.dropEntry f) :=
  ((Reacts.refl s).dropEntry f).keeps fun h => (metered_persistent).dropEntry h f

theorem Keeps.cancelEntry (s : State) (f : FilterId) : Keeps s (s.cancelEntry f) :=
  (Keeps.dropEntry s f).trans (.postTo _ _ _)

theorem State.cleanOf_some {f : FilterId} {r : LineRecord} (h : s.cleanOf f = some r) :
    s.line.clean = some r ∧ r.filter = f := by
  unfold State.cleanOf at h
  split at h
  · next x e =>
    split at h
    · cases h; exact ⟨e, by assumption⟩
    · cases h
  · cases h

theorem Keeps.takeAbortBackwash (s : State) (p : PortId) (ps : List Byte) : Keeps s (s.takeAbortBackwash p ps).state := by
  unfold State.takeAbortBackwash
  split
  · split
    · exact .refl s
    · unfold State.abortBackwash
      split
      · exact .refl s
      · split
        · exact .cancelEntry s _
        · split
          · exact .refl s
          · next r e =>
            have hs := (State.cleanOf_some e).1
            exact ((Reacts.refl s).abortClean hs).keeps fun m => m.abortClean hs
  · exact .refl s

theorem Keeps.takePurgeEntry (s : State) (ps : List Byte) : Keeps s (s.takePurgeEntry ps).state := by
  unfold State.takePurgeEntry
  split
  · split
    · exact .refl s
    · next f _ =>
      split
      · refine (Keeps.cancelEntry s f).trans ?_
        dsimp only
        refine .updFilter _ _ ?_ ?_
        · exact fun h => ⟨h.1, h.2, h.3, h.4⟩
        · exact fun _ h => h
      · exact .refl s
  · exact .refl s

theorem Keeps.takeClearLine (s : State) : Keeps s s.takeClearLine.state := by
  have k : Keeps s { s with line := { s.line with available := true } } :=
    .aside rfl rfl rfl rfl rfl rfl rfl rfl rfl rfl rfl rfl rfl
  unfold State.takeClearLine
  split
  · exact .refl s
  · exact k.trans (.needGrant _)

theorem Keeps.takeReadCircuit (s : State) (ps : List Byte) : Keeps s (s.takeReadCircuit ps).state := by
  unfold State.takeReadCircuit
  split
  · split <;> exact .refl s
  · exact .refl s

theorem Keeps.takeReadFilter (s : State) (ps : List Byte) : Keeps s (s.takeReadFilter ps).state := by
  unfold State.takeReadFilter
  split
  · split
    · exact .refl s
    · exact .aside rfl rfl rfl rfl rfl rfl rfl rfl rfl rfl rfl rfl rfl
  · exact .refl s

theorem Keeps.takeReadSetting (s : State) (ps : List Byte) : Keeps s (s.takeReadSetting ps).state := by
  unfold State.takeReadSetting
  split
  · split <;> exact .refl s
  · exact .refl s

/-! ## Settings (11) -/

theorem State.SettingsLaw.write (h : s.SettingsLaw) {i : Item} {v : Nat} (hv : i.inRange v = true) (j : Item) :
    j.inRange ((s.settings.write i v).read j) = true := by
  by_cases e : j = i
  · rw [e]; exact Settings.inRange_write_self _ hv
  · rw [Settings.read_write_ne _ e]; exact h j

/-- Formed again, an accumulator lies below its stroke unit (07 R151). -/
theorem State.clampAccumulator_lt (s : State) (c : CircuitId) (hu : 0 < s.settings.strokeUnit c) :
    ((s.clampAccumulator c).doses.get c).accumulator < s.settings.strokeUnit c := by
  unfold State.clampAccumulator
  rw [State.updDose_doses, PerCircuit.get_set_same]
  split
  · show s.settings.strokeUnit c - 1 < _; omega
  · omega

/-- What the ranges ask of a Dose Channel but for its accumulator. -/
def DoseChannel.Counts (d : DoseChannel) : Prop :=
  d.owed ≤ Config.owedMax ∧ d.delivered ≤ Config.count32Max ∧ d.shortfall ≤ Config.count16Max

/-- The Dose Channels of the circuits in a list are within the stroke units, and all have their counts in range. -/
def State.DosesWithin (s : State) (l : List CircuitId) : Prop :=
  (∀ c, (s.doses.get c).Counts) ∧ ∀ c ∈ l, (s.doses.get c).accumulator < s.settings.strokeUnit c

theorem State.DosesWithin.clamp {l : List CircuitId} (h : s.DosesWithin l) (c : CircuitId)
    (hu : 0 < s.settings.strokeUnit c) : (s.clampAccumulator c).DosesWithin (c :: l) := by
  have e : ∀ d, d ≠ c → (s.clampAccumulator c).doses.get d = s.doses.get d := fun d k => by
    unfold State.clampAccumulator
    rw [State.updDose_doses, PerCircuit.get_set_ne _ k]
  refine ⟨fun d => ?_, fun d m => ?_⟩
  · by_cases k : d = c
    · subst k
      unfold State.clampAccumulator
      rw [State.updDose_doses, PerCircuit.get_set_same]
      split <;> exact h.1 d
    · rw [e d k]; exact h.1 d
  · by_cases k : d = c
    · subst k; exact s.clampAccumulator_lt d hu
    · rw [e d k]; exact h.2 d ((List.mem_cons.1 m).resolve_left k)

theorem State.clampAll_within (l : List CircuitId) {done : List CircuitId} (h : s.DosesWithin done)
    (hu : ∀ c, 0 < s.settings.strokeUnit c) :
    (l.foldl (fun t c => t.clampAccumulator c) s).DosesWithin (l.reverse ++ done) := by
  induction l generalizing s done with
  | nil => exact h
  | cons c l ih =>
    rw [List.reverse_cons, List.append_assoc]
    exact ih (h.clamp c (hu c)) hu

/-- Clamping accumulators changes the Dose Channels' accumulators alone. -/
theorem State.clampAll_frame (l : List CircuitId) (s : State) :
    ∃ ds : PerCircuit DoseChannel, l.foldl (fun t c => t.clampAccumulator c) s = { s with doses := ds } ∧
      ∀ c, (ds.get c).reasons = (s.doses.get c).reasons := by
  induction l generalizing s with
  | nil => exact ⟨_, rfl, fun _ => rfl⟩
  | cons c l ih =>
    obtain ⟨ds, e, k⟩ := ih (s.clampAccumulator c)
    refine ⟨ds, e, fun d => (k d).trans ?_⟩
    unfold State.clampAccumulator
    rw [State.updDose_doses, PerCircuit.get_set]
    split
    · next e => subst e; split <;> rfl
    · rfl

theorem Keeps.reclampAll (s : State) (b : Bool) : Keeps s (s.reclampAll b) :=
  Keeps.foldl (fun t c => by
    split
    · exact .reclamp t c
    · exact .refl t) _ s

/-- The ranges of the quantities that do not hang on the settings. -/
theorem State.RangeLaw.withSettings (h : s.RangeLaw) (x : Settings) (hs : ∀ i : Item, i.inRange (x.read i) = true)
    {ds : PerCircuit DoseChannel} (hd : ∀ c, (ds.get c).accumulator < x.strokeUnit c ∧ (ds.get c).Counts)
    {w : Waste} (hw : w.allowance ≤ x.wasteCap) : State.RangeLaw { s with settings := x, doses := ds, waste := w } :=
  { h with settings := hs, doses := hd, waste := hw }

/-- A stored setting that leaves the stroke units and the cap as they are. -/
theorem Keeps.withSettings (s : State) (x : Settings) (hs : s.SettingsLaw → ∀ i : Item, i.inRange (x.read i) = true)
    (hu : ∀ c, x.strokeUnit c = s.settings.strokeUnit c) (hw : x.wasteCap = s.settings.wasteCap) :
    Keeps s { s with settings := x } :=
  ⟨id, fun h => h.withSettings x (hs h.settings) (fun c => by rw [hu]; exact h.doses c) (by rw [hw]; exact h.waste),
    fun _ => Nat.le_refl _⟩

/-- A stored setting that changes stroke units, the accumulators of their circuits being clamped (07 R151). -/
theorem Keeps.withClamp (s : State) (x : Settings) (l : List CircuitId)
    (hs : s.SettingsLaw → ∀ i : Item, i.inRange (x.read i) = true)
    (hu : ∀ c, c ∉ l → x.strokeUnit c = s.settings.strokeUnit c) (hw : x.wasteCap = s.settings.wasteCap) :
    Keeps s (l.foldl (fun t c => t.clampAccumulator c) { s with settings := x }) := by
  obtain ⟨ds, e, hr⟩ := State.clampAll_frame l { s with settings := x }
  refine ⟨fun h c => ?_, fun h => ?_, fun p => by rw [e]⟩
  · rw [e]; exact (hr c).trans (h c)
  · have pos : ∀ c, 0 < x.strokeUnit c :=
      fun c => State.SettingsLaw.strokeUnit_pos (s := { s with settings := x }) (hs h.settings) c
    have k : ∀ done : List CircuitId, (∀ c ∈ done, (s.doses.get c).accumulator < x.strokeUnit c) →
        ∀ c ∈ l.reverse ++ done, (ds.get c).accumulator < x.strokeUnit c ∧ (ds.get c).Counts := fun done hd c m => by
      have w := State.clampAll_within (s := { s with settings := x }) l (done := done) ⟨fun c => (h.doses c).2, hd⟩ pos
      rw [e] at w
      exact ⟨w.2 c m, w.1 c⟩
    rw [e]
    refine h.withSettings x (hs h.settings) (fun c => ?_) (by rw [hw]; exact h.waste)
    by_cases m : c ∈ l
    · exact k [] (by simp) c (by simpa using m)
    · refine k [c] (fun d hd => ?_) c (by simp)
      rw [List.mem_singleton.1 hd, hu c m]
      exact (h.doses c).1

theorem Keeps.storeSetting (s : State) {i : Item} {v : Nat} (hv : i.inRange v = true) : Keeps s (s.storeSetting i v) := by
  unfold State.storeSetting
  split
  · exact .refl s
  · have hs : s.SettingsLaw → ∀ j : Item, j.inRange ((s.settings.write i v).read j) = true := fun h => h.write hv
    cases i
    case wasteCap =>
      exact
        .intro (interlocks := fun h => h)
          (ranges := fun h => h.withSettings _ (hs h.settings) h.doses (Nat.min_le_right _ _))
          (room := fun _ => Nat.le_refl _)
    case strokeVolume c _ =>
      refine Keeps.withClamp s _ [c] hs (fun d m => ?_) rfl
      simp only [Settings.strokeUnit, Settings.write]
      rw [PerCircuit.get_set_ne _ (by simpa using m)]
    case hypoStrength => exact Keeps.withClamp s _ allCircuits hs (fun c m => absurd (mem_allCircuits c) m) rfl
    case surgeMode => exact (Keeps.withSettings s _ hs (fun _ => rfl) rfl).trans (.resumeAll _)
    case doseCap => exact (Keeps.withSettings s _ hs (fun _ => rfl) rfl).trans (.reclampAll _ _)
    case shockDoseCap => exact (Keeps.withSettings s _ hs (fun _ => rfl) rfl).trans (.reclampAll _ _)
    all_goals exact Keeps.withSettings s _ hs (fun _ => rfl) rfl

theorem Keeps.takeWriteSetting (s : State) (ps : List Byte) : Keeps s (s.takeWriteSetting ps).state := by
  unfold State.takeWriteSetting
  split
  · split
    · exact .refl s
    · next i _ =>
      unfold State.writeSetting
      split
      · exact .refl s
      · split
        · exact .refl s
        · next hv =>
          split
          · exact .refl s
          · exact .storeSetting s (by simpa using hv)
  · exact .refl s

/-! ## Starting, restarting and maintenance (01, 11) -/

theorem Keeps.fileTravel (s : State) {f : FilterId} (stop : Stop) (q : Requester) (hn : ¬ s.Still f) :
    Keeps s (s.fileTravel f stop q) :=
  ((Reacts.refl s).fileTravel stop q hn).keeps fun h => (metered_persistent).fileTravel h f stop q

/-- A filter that is neither OUT_OF_USE nor in FAULT is not still. -/
theorem State.moveFilter_not_still (s : State) (f : FilterId) {st : FilterState} (g : FilterRecord → FilterRecord)
    (h1 : st ≠ .fault) (h2 : st ≠ .outOfUse) : ¬ (s.moveFilter f st g).Still f := by
  have e : ((s.moveFilter f st g).filters.get f).state = st := by
    simp [State.moveFilter, State.filterChanged, State.needEval, State.needGrant]
  exact State.not_still_of (by rw [e]; exact h1) (by rw [e]; exact h2)

theorem Keeps.startHomingOf (s : State) (f : FilterId) : Keeps s (s.startHomingOf f) :=
  (Keeps.moveFilter s f .homing fun _ h => h).trans
    (.fileTravel _ _ _ (s.moveFilter_not_still f id (by decide) (by decide)))

/-- The bank is homed from a state outside RUNNING (11 R202). -/
theorem Keeps.homeBank (s : State) (h : s.plant ≠ .running) : Keeps s s.homeBank := by
  have k : Keeps s { s with plant := .homing, bankHoming := Bank.all true } :=
    .intro (interlocks := fun x c => by
        rw [show State.doses _ = s.doses from rfl, x c]
        have e : (s.plant != .running) = true := by simpa using h
        simp only [State.trueReasons, State.flowProven, e]
        rfl)
      (ranges := fun x => x.of_eq rfl rfl rfl rfl (fun _ => Nat.le_refl _) rfl rfl rfl rfl)
      (room := fun _ => Nat.le_refl _)
  exact k.trans (Keeps.foldl (fun t f => .startHomingOf t f) _ _)

theorem Keeps.takeStartPlant (s : State) : Keeps s s.takeStartPlant.state := by
  unfold State.takeStartPlant
  split
  · exact .refl s
  · next e =>
    split
    · exact .refl s
    · exact .homeBank s (by rw [not_not.1 e]; decide)

theorem mapBank_get {α : Type} (b : Bank α) (g : α → α) (f : FilterId) : (mapBank b g).get f = g (b.get f) := by
  cases f <;> rfl

theorem FilterRecord.Ranged.restarted {r : FilterRecord} (h : r.Ranged) : r.restarted.Ranged :=
  have k := h.enter .unknown 0
  ⟨k.1, k.2, k.3, k.4⟩

theorem Channel.Ranged.restarted {ch : Channel} (h : ch.Ranged) : ch.restarted.Ranged :=
  ⟨fun _ e => (nomatch e), by simp [Channel.restarted], Nat.zero_le _, h.copied, Nat.zero_le _⟩

/-- The blocks as RESTART leaves them, the reasons and the notices apart (11 R204). -/
def State.cleared (s : State) : State :=
  { s with
    filters := mapBank s.filters FilterRecord.restarted
    queue := []
    line := { s.line with pump := false, clean := none }
    channels := mapBank s.channels Channel.restarted
    requests := Bank.all none
    travelQueue := []
    slots := { first := none, second := none } }

theorem State.RangeLaw.cleared (h : s.RangeLaw) : s.cleared.RangeLaw :=
  { settings := h.settings, doses := h.doses, demands := h.demands, waste := h.waste, responses := h.responses,
    bins := h.bins
    counters := fun f => by
      rw [show s.cleared.filters = mapBank s.filters FilterRecord.restarted from rfl, mapBank_get]
      exact (h.counters f).restarted
    channels := fun f => by
      rw [show s.cleared.channels = mapBank s.channels Channel.restarted from rfl, mapBank_get]
      exact (h.channels f).restarted
    volume := fun _ e => nomatch e
    holds := fun f => by
      rw [show s.cleared.filters = mapBank s.filters FilterRecord.restarted from rfl, mapBank_get]
      exact .stopped }

/-- What RESTART makes of the blocks: NOT_RUNNING joins every channel's reasons and RESTARTED is posted. -/
theorem State.restartBlocks_frame (s : State) : ∃ ds ps, s.restartBlocks = { s.cleared with doses := ds, ports := ps } ∧
    (∀ c, (ds.get c).reasons = { (s.doses.get c).reasons with notRunning := true }) ∧
    (∀ p, (ps.get p).responses.length ≤ (s.ports.get p).responses.length) ∧
    (s.RangeLaw → ∀ pl, State.RangeLaw { s.cleared with doses := ds, ports := ps, plant := pl }) := by
  have eb : s.restartBlocks = (s.cleared.formAllReasons fun r => { r with notRunning := true }).postAll .restarted := rfl
  have reasons := s.cleared.formAllReasons_reasons fun r => { r with notRunning := true }
  have formed := s.cleared.formAllReasons_room fun r => { r with notRunning := true }
  have ranges : s.RangeLaw → _ := fun h => h.cleared.formAllReasons fun r => { r with notRunning := true }
  obtain ⟨ds, ps, e⟩ := s.cleared.formAllReasons_frame fun r => { r with notRunning := true }
  rw [e] at reasons formed ranges eb
  have posted := Keeps.postAll { s.cleared with doses := ds, ports := ps } .restarted
  obtain ⟨ps', e'⟩ := State.postAll_frame { s.cleared with doses := ds, ports := ps } .restarted
  rw [e'] at eb posted
  refine ⟨ds, ps', eb, reasons, fun p => (posted.room p).trans (formed p).le, fun h pl => ?_⟩
  exact (ranges h).of_eq rfl rfl rfl rfl posted.room rfl rfl rfl rfl

/-- RESTART as the plant leaves RUNNING, `p` being the plant state it goes to (11 R204). -/
theorem Keeps.restartBlocks (s : State) {p : PlantState} (hp : p ≠ .running) :
    Keeps s { s.restartBlocks with plant := p } := by
  obtain ⟨ds, ps, e, reasons, room, ranges⟩ := s.restartBlocks_frame
  rw [e]
  refine ⟨fun h c => ?_, fun h => ranges h p, room⟩
  have hn : (p != .running) = true := by simpa using hp
  refine (reasons c).trans ?_
  rw [h c]
  simp only [State.trueReasons, State.flowProven, hn]
  rfl

/-- The homing of the bank sets the plant state itself. -/
theorem State.homeBank_withPlant (s : State) (p : PlantState) : State.homeBank { s with plant := p } = s.homeBank := rfl

theorem Keeps.takeRestart (s : State) : Keeps s s.takeRestart.state := by
  obtain ⟨ds, ps, e, -⟩ := s.restartBlocks_frame
  unfold State.takeRestart
  dsimp only
  split
  · next h =>
    have k := Keeps.restartBlocks s (p := .setup) (by decide)
    have plant : s.cleared.plant = .setup := h.1
    rw [e] at k ⊢
    rwa [← plant] at k
  · have k := (Keeps.restartBlocks s (p := .homing) (by decide)).trans (.homeBank _ (by simp))
    rwa [State.homeBank_withPlant] at k

theorem Keeps.park (s : State) (f : FilterId) : Keeps s (s.park f) := by
  unfold State.park
  dsimp only
  have k : Keeps s (s.moveFilter f .parking fun r => { r with circuit := none, cover := false, faultKind := none }) :=
    .moveFilter s f .parking fun _ h => ⟨h.1, h.2, h.3, h.4⟩
  refine Keeps.trans (k.trans (.dropEntry _ f)) (.fileTravel _ _ _ ?_)
  have hn := s.moveFilter_not_still f (st := .parking) (fun r => { r with circuit := none, cover := false, faultKind := none })
    (by decide) (by decide)
  exact fun x => hn (by
    unfold State.dropEntry at x
    split at x
    · have state := x.state
      exact absurd state (by
        simp [State.moveFilter, State.filterChanged, State.needEval, State.needGrant, State.needPass])
    · exact x)

theorem Keeps.takeTakeOutOfUse (s : State) (ps : List Byte) : Keeps s (s.takeTakeOutOfUse ps).state := by
  unfold State.takeTakeOutOfUse
  split
  · split
    · exact .refl s
    · next f _ =>
      unfold State.takeOut
      split
      · exact .park s _
      · refine ((Keeps.needPass s).trans (.postTo _ (s.filters.get f).circuit .filterLeft)).trans ?_
        exact .park _ _
      · split
        · exact .park s _
        · dsimp only
          refine Keeps.trans ?_ (.dropEntry _ _)
          exact .moveFilter s _ .outOfUse fun _ h => ⟨h.1, h.2, h.3, h.4⟩
      all_goals exact .refl s
  · exact .refl s

theorem Keeps.takeReturnToUse (s : State) (ps : List Byte) : Keeps s (s.takeReturnToUse ps).state := by
  have homes : ∀ f, Keeps s ((s.moveFilter f .homing fun r => { r with faultKind := none }).fileTravel f .closed .homing) :=
    fun f => by
      refine Keeps.trans ?_ (.fileTravel _ _ _ (s.moveFilter_not_still f _ (by decide) (by decide)))
      exact .moveFilter s f .homing fun _ h => ⟨h.1, h.2, h.3, h.4⟩
  unfold State.takeReturnToUse
  split
  · split
    · exact .refl s
    · unfold State.returnToUse
      split
      any_goals exact homes _
      all_goals exact .refl s
  · exact .refl s

/-! ## Frames -/

theorem Keeps.answer (s : State) (p : PortId) (kind : Byte) (ps : List Byte) : Keeps s (s.answer p kind ps).state := by
  unfold State.answer
  split
  · exact .refl s
  · split
    · exact .refl s
    · unfold State.handle
      split
      · exact .takeSetDemand s p ps
      · exact .takeSetMode s p ps
      · exact .takeSetDose s p ps
      · exact .takeRequestBackwash s p ps
      · exact .takeAbortBackwash s p ps
      · exact .takeReadCircuit s ps
      · exact .takeReadFilter s ps
      · exact .refl s
      · exact Keeps.updPort s p (g := Port.clearNotices) (Nat.le_refl _)
      · exact Keeps.updPort s p (g := fun q => { q with mask := BitVec.ofNat 24 (bytesValue ps) }) (Nat.le_refl _)
      · exact Keeps.updPort s p (g := Port.cleared) (Nat.zero_le _)
      · exact .refl s
      · exact .takeWriteSetting s ps
      · exact .takeReadSetting s ps
      · exact .takeStartPlant s
      · exact .takeRestart s
      · exact .takeTakeOutOfUse s ps
      · exact .takeReturnToUse s ps
      · exact .takeClearLine s
      · exact .takePurgeEntry s ps

/-- What a frame keeps: it may queue a response where the port has room for one. -/
abbrev KeepsLaws (s t : State) : Prop :=
  (s.InterlockLaw → t.InterlockLaw) ∧ (s.RangeLaw → t.RangeLaw)

theorem KeepsLaws.intro (interlocks : s.InterlockLaw → t.InterlockLaw) (ranges : s.RangeLaw → t.RangeLaw) :
    KeepsLaws s t := ⟨interlocks, ranges⟩

theorem KeepsLaws.interlocks (h : KeepsLaws s t) : s.InterlockLaw → t.InterlockLaw := h.1
theorem KeepsLaws.ranges (h : KeepsLaws s t) : s.RangeLaw → t.RangeLaw := h.2

theorem Keeps.laws (h : Keeps s t) : KeepsLaws s t := ⟨h.interlocks, h.ranges⟩

theorem KeepsLaws.trans (h : KeepsLaws s t) (k : KeepsLaws t u) : KeepsLaws s u :=
  ⟨fun x => k.interlocks (h.interlocks x), fun x => k.ranges (h.ranges x)⟩

theorem KeepsLaws.enqueue (s : State) (p : PortId) (r : Response) (h : (s.ports.get p).responses.length < 2) :
    KeepsLaws s (s.updPort p fun q => q.enqueue r) := KeepsLaws.intro
  (interlocks := fun x => x)
  (ranges := fun x =>
    { settings := x.settings, doses := x.doses, demands := x.demands, waste := x.waste, counters := x.counters,
      bins := x.bins, channels := x.channels, volume := x.volume, holds := x.holds
      responses := by
        intro q
        rw [State.updPort_ports, PerPort.get_set]
        split
        · simp only [Port.enqueue, List.length_append, List.length_singleton]; omega
        · exact x.responses q })

theorem Keeps.hear (s : State) (p : PortId) (bs : List Byte) : Keeps s (s.hear p bs) := by
  unfold State.hear
  split
  · exact .heardFrom s _
  all_goals exact .refl s

theorem Keeps.postLinkError (s : State) (p : PortId) (e : LinkErrorKind) : Keeps s (s.postLinkError p e) :=
  .updPort s p (Nat.le_refl _)

theorem Keeps.record (s : State) (p : PortId) (x : FrameTrace) : Keeps s (s.record p x) := .updPort s p (Nat.le_refl _)

theorem KeepsLaws.takeRequest (s : State) (p : PortId) (kind : Byte) (ps : List Byte) :
    KeepsLaws s (s.takeRequest p kind ps) := by
  unfold State.takeRequest
  split
  · exact (Keeps.post s p .requestDropped).laws
  · next h =>
    have k := Keeps.answer s p kind ps
    exact (k.laws.trans (.enqueue _ p _ (Nat.lt_of_le_of_lt (k.room p) (by omega)))).trans (Keeps.finishEvent _).laws

theorem KeepsLaws.receiveFrame (s : State) (p : PortId) (bs : List Byte) (cut : Bool) :
    KeepsLaws s (s.receiveFrame p bs cut) := by
  have heard := (Keeps.hear s p bs).laws
  unfold State.receiveFrame
  dsimp only
  split
  · exact (Keeps.refl s).laws
  · refine heard.trans (((Keeps.updPort _ p ?_).trans (.record _ p _)).laws)
    unfold Port.afterFetch
    dsimp only
    split
    · simp
    · exact Nat.le_refl _
  · exact (heard.trans (.takeRequest _ p _ _)).trans (Keeps.record _ p _).laws
  · exact (heard.trans (Keeps.postLinkError _ p _).laws).trans (Keeps.record _ p _).laws

end Sys2Proof.Machine
end

section
/-! The invariants of every step: the ranges (O9) and the interlocks (O10). -/

namespace Sys2Proof.Machine

variable {s t : State}

/-! ## The reset pin -/

theorem State.reset_settings : State.reset.SettingsLaw := by
  intro i
  cases i with
  | litresPerFlowPulse c => cases c <;> rfl
  | strokeVolume c => cases c <;> rfl
  | maxStrokeRate c => cases c <;> rfl
  | _ => rfl

theorem State.reset_doses : State.reset.DoseLaw := by
  intro c
  cases c <;> decide

theorem State.reset_demands : State.reset.DemandLaw := by
  intro c
  cases c <;> decide

theorem FilterRecord.poweredOn_get (s : State) (dp : Bank Bool) (f : FilterId) :
    ∃ b, (s.powerOn dp).filters.get f = FilterRecord.poweredOn b := by
  cases f <;> exact ⟨_, rfl⟩

theorem FlowRecord.reset_ranged : FlowRecord.reset.Ranged :=
  ⟨by decide, rfl, by decide⟩

theorem Channel.reset_ranged : Channel.reset.Ranged :=
  ⟨fun _ e => (nomatch e), by decide, by decide, by decide, by decide⟩

/-- Power-on gives every quantity a value in its range, and every channel every reason (11 R205, 07 R153). -/
theorem KeepsLaws.powerOn (s : State) (dp : Bank Bool) : KeepsLaws s (s.powerOn dp) := KeepsLaws.intro
  (interlocks := fun _ c => by cases c <;> rfl)
  (ranges := fun _ =>
    { settings := State.reset_settings
      doses := State.reset_doses
      demands := State.reset_demands
      waste := Nat.zero_le _
      responses := fun p => by
        rcases p with c | _
        · cases c <;> exact Nat.zero_le _
        · exact Nat.zero_le _
      counters := fun f => by
        obtain ⟨b, e⟩ := FilterRecord.poweredOn_get s dp f
        rw [e]
        exact ⟨Nat.zero_le _, Nat.zero_le _, Nat.zero_le _, Nat.zero_le _⟩
      bins := fun c => by cases c <;> exact FlowRecord.reset_ranged
      channels := fun f => by cases f <;> exact Channel.reset_ranged
      volume := fun _ e => nomatch e
      holds := fun f => by
        obtain ⟨b, e⟩ := FilterRecord.poweredOn_get s dp f
        rw [e]
        exact .stopped })

theorem State.powerOn_quiet (s : State) (dp : Bank Bool) : (s.powerOn dp).Quiet where
  due := rfl
  paths c := by
    have e : (s.powerOn dp).hasPath c = false := by
      unfold State.hasPath
      rw [List.any_eq_false]
      intro f _
      obtain ⟨b, e⟩ := FilterRecord.poweredOn_get s dp f
      rw [e]
      simp [FilterRecord.serves, FilterRecord.poweredOn, FilterRecord.reset]
    rw [e]
    cases c <;> rfl

/-! ## Every command -/

/-- An event's own effect and what follows from it. -/
theorem Keeps.event (h : Keeps s t) : KeepsLaws s t.finishEvent := (h.trans (.finishEvent t)).laws

/-- Every command keeps the two laws. -/
theorem exec_keepsLaws {i : Instr} (h : exec i s = .next t) : KeepsLaws s t := by
  cases i
  case powerOn dp => cases h; exact .powerOn s dp
  case binTimerExpiry => cases h; exact (Keeps.rotateBins s).laws
  case dpSwitchChange f b => cases h; exact (Keeps.dpSwitchChange s f b).laws
  case pacingTimerExpiry c => cases h; exact (Keeps.pacingExpiry s c).laws
  case strokeTimerExpiry c => cases h; exact (Keeps.strokeExpiry s c).laws
  case flowPulse c => cases h; exact (Keeps.flowPulse s c).event
  case flowProofExpiry c => cases h; exact (Keeps.flowProofExpiry s c).event
  case wastePulse => cases h; exact (Keeps.wastePulse s).event
  case runTimeMinute f => cases h; exact (Keeps.runTimeMinute s f).event
  case recheckExpiry f => cases h; exact (Keeps.recheck s f).event
  case dpHoldExpiry f => cases h; exact (Keeps.dpHoldExpiry s f).event
  case refillTimerExpiry => cases h; exact (Keeps.refill s).event
  case bwStartChange b => cases h; exact (Keeps.bwStartChange s b).event
  case lowLowChange b => cases h; exact (Keeps.lowLowChange s b).event
  case phaseTimerExpiry =>
    cases h; exact ((Reacts.refl s).linePhaseExpiry.keeps State.Metered.linePhaseExpiry).event
  case lineFlowProofExpiry => cases h; exact (Keeps.lineFlowExpiry s).event
  case suspendTimerExpiry =>
    cases h; exact ((Reacts.refl s).lineSuspendExpiry.keeps State.Metered.lineSuspendExpiry).event
  case plantStopOpens => cases h; exact (Keeps.stopOpens s).event
  case plantStopRelease => cases h; exact (Keeps.stopCloses s).event
  case surgeChange b => cases h; exact (Keeps.surgeChange s b).event
  case bulkLowChange b => cases h; exact (Keeps.bulkLowChange s b).event
  case silenceTimerExpiry c => cases h; exact (Keeps.silenceExpiry s c).event
  case dwellExpiry f => cases h; exact (Keeps.dwellExpiry s f).event
  case profileInterval f => cases h; exact (Keeps.profileInterval s f).event
  case torqueTrip f d b => cases h; exact (Keeps.torqueChange s f d b).event
  case detentClose f => cases h; exact (Keeps.detentClose s f).event
  case settleTimeout f => cases h; exact (Keeps.settleTimeout s f).event
  case detentLossAtRest f => cases h; exact (Keeps.detentOpen s f).event
  case homeEdgeRaw f b => cases h; exact (Keeps.homeEdgeRaw s f b).event
  case homeEdgeConfirmed f b => cases h; exact (Keeps.homeEdgeConfirmed s f b).event
  case homeEdgeHoldFails f => cases h; exact (Keeps.homeEdgeFails s f).event
  all_goals cases h; exact .receiveFrame s _ _ _

/-- A frame ends quiet where it began quiet. -/
theorem State.Quiet.receiveFrame (h : s.Quiet) (p : PortId) (bs : List Byte) (cut : Bool) :
    (s.receiveFrame p bs cut).Quiet := by
  have heard : (s.hear p bs).Quiet := by
    cases bs with
    | nil => cases p <;> exact h
    | cons b bs => exact (State.hear_cons s p b 0#8 bs []) ▸ h.heard p
  have request : ∀ {s : State} (_ : s.Quiet) (kind : Byte) (ps : List Byte), (s.takeRequest p kind ps).Quiet := by
    intro s h kind ps
    unfold State.takeRequest
    split
    · exact h.updPort _ _
    · exact State.finishEvent_quiet
  unfold State.receiveFrame
  dsimp only
  split
  · exact h
  · exact heard.of_eq rfl rfl rfl
  · exact (request heard _ _).of_eq rfl rfl rfl
  · exact heard.of_eq rfl rfl rfl

/-- A change of one filter record that keeps its state and assignment leaves the path states as they are. -/
theorem State.Quiet.updFilter (h : s.Quiet) (f : FilterId) {g : FilterRecord → FilterRecord}
    (hs : ∀ r, (g r).state = r.state) (hc : ∀ r, (g r).circuit = r.circuit) : (s.updFilter f g).Quiet where
  due := h.due
  paths c := by
    have e : ∀ q, ((s.updFilter f g).filters.get q).serves c = (s.filters.get q).serves c := by
      intro q
      rw [State.updFilter_filters, Bank.get_set]
      split
      · next e => rw [e]; simp [FilterRecord.serves, FilterRecord.on, hs, hc]
      · rfl
    rw [State.hasPath]
    simp only [e]
    exact h.paths c

/-- Every command ends quiet where it began quiet. -/
theorem State.Quiet.exec (hq : s.Quiet) {i : Instr} (h : exec i s = .next t) : t.Quiet := by
  cases i
  case powerOn dp => cases h; exact s.powerOn_quiet dp
  case binTimerExpiry => cases h; exact hq.of_eq rfl rfl rfl
  case dpSwitchChange f b =>
    cases h
    refine hq.updFilter f (fun r => ?_) fun r => ?_
    all_goals
      unfold FilterRecord.dpSwitched
      split <;> rfl
  case pacingTimerExpiry c =>
    cases h
    unfold State.pacingExpiry
    split
    · exact hq.of_eq rfl rfl rfl
    · exact hq
  case strokeTimerExpiry c => cases h; exact hq.of_eq rfl rfl rfl
  all_goals
    first
      | exact (Host.Outcome.next.inj h) ▸ State.finishEvent_quiet
      | exact (Host.Outcome.next.inj h) ▸ hq.receiveFrame _ _ _

theorem Keeps.idle (s : State) : Keeps s s.idle :=
  .aside (by simp) (by simp) (by simp) (by simp) (by simp) (by simp) (by simp) (by simp) (by simp) (by simp) (by simp)
    (by simp) (by simp)

/-- What a step does, said once: it idles, or the command at the front of the queue is taken. -/
theorem step_cases (h : step s = .next t) :
    (s.pending = [] ∧ t = s.idle) ∨ ∃ i rest, s.pending = i :: rest ∧ exec i { s with pending := rest } = .next t := by
  unfold step at h
  split at h
  · next e => cases h; exact .inl ⟨e, rfl⟩
  · next i rest e => exact .inr ⟨i, rest, e, h⟩

theorem Keeps.withPending (s : State) (l : List Instr) : Keeps s { s with pending := l } :=
  .aside rfl rfl rfl rfl rfl rfl rfl rfl rfl rfl rfl rfl rfl

/-- Every step keeps the two laws. -/
theorem step_keepsLaws (h : step s = .next t) : KeepsLaws s t := by
  rcases step_cases h with ⟨-, rfl⟩ | ⟨i, rest, -, k⟩
  · exact (Keeps.idle s).laws
  · exact (Keeps.withPending s rest).laws.trans (exec_keepsLaws k)

/-- Every step ends quiet where it began quiet. -/
theorem State.Quiet.step (hq : s.Quiet) (h : Machine.step s = .next t) : t.Quiet := by
  rcases step_cases h with ⟨-, rfl⟩ | ⟨i, rest, -, k⟩
  · exact hq.of_eq (by simp) (by simp) (by simp)
  · have q : State.Quiet { s with pending := rest } := hq.of_eq rfl rfl rfl
    exact q.exec k

/-- Settles O9: every operation of the model keeps the ranges (`Keeps`), and so does every command. -/
theorem rangesAreKept : Obligations.RangesAreKept := fun _ _ h k => (step_keepsLaws k).ranges h

/-- Settles O10: an event forms a reason with its condition, and its end evaluates the path states. -/
theorem interlocksFollowTheirConditions : Obligations.InterlocksFollowTheirConditions :=
  fun _ _ hq h k => ⟨hq.step k, (step_keepsLaws k).interlocks h⟩

end Sys2Proof.Machine
end

section
/-! SUPPORT. The allocation pass (01 section 1.4): lists with a first element of a kind, what a change of one record does to
a count, the work of assigning spare filters one after the other, and steps that repeat until nothing is left to do. -/

namespace Sys2Proof.Machine

/-! ## Lists -/

/-- In a list ordered by `R` the first element that meets a test is the one that no other such element precedes. -/
theorem find?_first {α : Type} {R : α → α → Prop} {p : α → Bool} {l : List α} (hl : l.Pairwise R) {x : α} (hm : x ∈ l)
    (hx : p x = true) (h : ∀ y ∈ l, p y = true → ¬ R y x) : l.find? p = some x := by
  induction l with
  | nil => cases hm
  | cons y l ih =>
    obtain ⟨first, rest⟩ := List.pairwise_cons.1 hl
    rcases List.mem_cons.1 hm with rfl | m
    · rw [List.find?_cons_of_pos hx]
    · have skip : ¬ p y = true := fun k => h y List.mem_cons_self k (first x m)
      rw [List.find?_cons_of_neg skip]
      exact ih rest m fun z n => h z (List.mem_cons_of_mem _ n)

/-- Two tests that agree off one element of a list: their counts differ as they do on it. -/
theorem length_filter_update {α : Type} [DecidableEq α] {p q : α → Bool} {l : List α} (hl : l.Nodup) {x : α} (hm : x ∈ l)
    (h : ∀ y, y ≠ x → q y = p y) :
    (l.filter q).length + (p x).toNat = (l.filter p).length + (q x).toNat := by
  induction l with
  | nil => cases hm
  | cons y l ih =>
    obtain ⟨fresh, rest⟩ := List.nodup_cons.1 hl
    by_cases e : x = y
    · subst e
      have same : l.filter q = l.filter p := List.filter_congr fun z n => h z fun k => fresh (k ▸ n)
      cases hp : p x <;> cases hq : q x <;> simp [hp, hq, same]
    · have m : x ∈ l := (List.mem_cons.1 hm).resolve_left e
      have k := ih rest m
      have ey : q y = p y := h y fun k => e k.symm
      cases hp : p y <;> simp [hp, ey.trans hp] <;> omega

theorem allFilters_nodup : allFilters.Nodup := by decide

theorem allFilters_ascending : allFilters.Pairwise fun f g => filterNumber f < filterNumber g := by decide

theorem allFilters_descending : allFilters.reverse.Pairwise fun f g => filterNumber g < filterNumber f := by decide

/-- The lowest-numbered filter that meets a test. -/
theorem find?_lowest {p : FilterId → Bool} {f : FilterId} (hf : p f = true)
    (h : ∀ g, p g = true → filterNumber f ≤ filterNumber g) : allFilters.find? p = some f :=
  find?_first allFilters_ascending (mem_allFilters f) hf fun g _ k => Nat.not_lt.2 (h g k)

/-- The highest-numbered filter that meets a test. -/
theorem find?_highest {p : FilterId → Bool} {f : FilterId} (hf : p f = true)
    (h : ∀ g, p g = true → filterNumber g ≤ filterNumber f) : allFilters.reverse.find? p = some f :=
  find?_first allFilters_descending (List.mem_reverse.2 (mem_allFilters f)) hf fun g _ k => Nat.not_lt.2 (h g k)

/-- A step that lowers a measure wherever it does anything has nothing left to do after as many repeats as the measure
allows. -/
theorem foldl_repeat_fixed {α β : Type} {step : α → α} (μ : α → Nat) (h : ∀ w, step w = w ∨ μ (step w) < μ w) (l : List β)
    (w : α) (hw : μ w ≤ l.length) : step (l.foldl (fun u _ => step u) w) = l.foldl (fun u _ => step u) w := by
  induction l generalizing w with
  | nil =>
    rcases h w with e | e
    · exact e
    · simp only [List.length_nil] at hw; omega
  | cons x l ih =>
    rcases h w with e | e
    · have stays : ∀ m : List β, m.foldl (fun u _ => step u) w = w := fun m => by
        induction m with
        | nil => rfl
        | cons y m ihm => rw [List.foldl_cons, e, ihm]
      rw [stays, e]
    · rw [List.foldl_cons]
      exact ih _ (by simp only [List.length_cons] at hw; omega)

/-! ## Counting filters (01 R13) -/

variable (s : State)

theorem State.countFilters_le (test : FilterRecord → Bool) : s.countFilters test ≤ 6 :=
  (List.length_filter_le _ allFilters).trans (by decide)

theorem State.countFilters_pos {test : FilterRecord → Bool} (h : 0 < s.countFilters test) :
    ∃ f, test (s.filters.get f) = true := by
  obtain ⟨f, m⟩ := List.length_pos_iff_exists_mem.1 h
  exact ⟨f, (List.mem_filter.1 m).2⟩

/-- A change of one record changes a count as it changes the test of that record. -/
theorem State.countFilters_update {s t : State} {f : FilterId} {r : FilterRecord} (ht : t.filters = s.filters.set f r)
    (test : FilterRecord → Bool) :
    t.countFilters test + (test (s.filters.get f)).toNat = s.countFilters test + (test r).toNat := by
  have k := length_filter_update (p := fun g => test (s.filters.get g)) (q := fun g => test (t.filters.get g))
    allFilters_nodup (mem_allFilters f) fun g hg => by rw [ht, Bank.get_set_ne _ hg]
  simpa only [State.countFilters, ht, Bank.get_set_same] using k

/-! ## What a step of a pass makes of its work -/

/-- A record that joins a circuit (01 R15, R16, R18). -/
def FilterRecord.joins (c : CircuitId) (cover : Bool) (r : FilterRecord) : FilterRecord :=
  { r with circuit := some c, cover := cover }.outside .joining

/-- The filters `fs` are changed by `g` and entered last in the order of change; the rest of the state, but for what is
due, stands. -/
def PassWork.Becomes (w u : PassWork) (fs : List FilterId) (g : FilterRecord → FilterRecord) : Prop :=
  u.changed = (w.changed.filter fun f => !fs.contains f) ++ fs ∧
  u.state = { w.state with filters := u.state.filters, due := u.state.due } ∧
  ∀ f, u.state.filters.get f = if f ∈ fs then g (w.state.filters.get f) else w.state.filters.get f

variable {w u v : PassWork}

theorem PassWork.Becomes.refl (w : PassWork) (g : FilterRecord → FilterRecord) : w.Becomes w [] g := by
  refine ⟨?_, rfl, fun f => (if_neg (List.not_mem_nil)).symm⟩
  simp

theorem PassWork.Becomes.trans {fs gs : List FilterId} {g : FilterRecord → FilterRecord} (h : w.Becomes v fs g)
    (k : v.Becomes u gs g) (hd : ∀ f ∈ fs, f ∉ gs) : w.Becomes u (fs ++ gs) g := by
  obtain ⟨h1, h2, h3⟩ := h
  obtain ⟨k1, k2, k3⟩ := k
  refine ⟨?_, by rw [k2, h2], fun f => ?_⟩
  · have kept : fs.filter (fun f => !gs.contains f) = fs := List.filter_eq_self.2 fun f m => by simpa using hd f m
    rw [k1, h1, List.filter_append, List.filter_filter, kept, List.append_assoc]
    congr 1
    refine List.filter_congr fun f _ => ?_
    rw [List.contains_append, Bool.not_or, Bool.and_comm]
  · rw [k3, h3]
    by_cases m : f ∈ fs
    · simp [m, hd f m]
    · simp [m]

/-- A filter taken into a new state by a pass. -/
theorem PassWork.becomes_move {c : FilterRecord → FilterRecord} {st : FilterState} (hs : st ≠ .service) (w : PassWork)
    (f : FilterId) (l : List CircuitId) :
    w.Becomes { state := w.state.moveFilter f st c, changed := moveLast w.changed f, left := l } [f]
      fun y => (c y).outside st := by
  refine ⟨?_, rfl, fun g => ?_⟩
  · simp only [moveLast, List.contains_cons, List.contains_nil, Bool.or_false]
    congr 1
  · have enter : (c (w.state.filters.get f)).enter st w.state.settings.dpHold = (c (w.state.filters.get f)).outside st := by
      unfold FilterRecord.enter
      rw [if_neg hs]
      rfl
    show ((w.state.filters.set f ((c (w.state.filters.get f)).enter st w.state.settings.dpHold)).get g) = _
    rw [Bank.get_set, enter]
    by_cases e : g = f
    · subst e; simp
    · simp [e]

theorem PassWork.assign_becomes (w : PassWork) (c : CircuitId) (cover : Bool) (f : FilterId) :
    w.Becomes (w.assign c cover f) [f] (.joins c cover) :=
  w.becomes_move (c := fun y => { y with circuit := some c, cover := cover }) (by decide) f w.left

/-! ## Assigning spare filters (01 R15, R17) -/

/-- The spare filters, lowest-numbered first. -/
def PassWork.spares (w : PassWork) : List FilterId :=
  allFilters.filter fun f => (w.state.filters.get f).spare

/-- Spare filters are assigned in the order of a list while a count stands below a limit. -/
def PassWork.assignWhile (c : CircuitId) (test : FilterRecord → Bool) (limit : CircuitRecord → Nat) (l : List FilterId)
    (w : PassWork) : PassWork :=
  l.foldl (fun w f =>
    if (w.state.filters.get f).spare && w.state.countFilters test < limit (w.state.circuits.get c) then w.assign c false f
    else w) w

/-- An assigned filter counts where the test passes what a step makes of a spare one, and failed on the spare one. -/
theorem PassWork.countFilters_assign {test : FilterRecord → Bool} {c : CircuitId} {b : Bool} {f : FilterId}
    (hs : (w.state.filters.get f).spare = true) (off : ∀ r : FilterRecord, r.spare = true → test r = false)
    (on : ∀ r : FilterRecord, test (r.joins c b) = true) :
    (w.assign c b f).state.countFilters test = w.state.countFilters test + 1 := by
  obtain ⟨-, -, records⟩ := w.assign_becomes c b f
  have k := State.countFilters_update (s := w.state) (t := (w.assign c b f).state) (f := f)
    (r := (w.state.filters.get f).joins c b)
    (Bank.ext_get fun g => by
      rw [records, Bank.get_set]
      by_cases e : g = f
      · subst e; simp
      · simp [e]) test
  rw [off _ hs, on] at k
  simpa using k

theorem PassWork.assignWhile_joins {c : CircuitId} {test : FilterRecord → Bool} {limit : CircuitRecord → Nat}
    (off : ∀ r : FilterRecord, r.spare = true → test r = false)
    (on : ∀ r : FilterRecord, test (r.joins c false) = true)
    {l : List FilterId} (hl : l.Nodup) (w : PassWork) :
    (w.assignWhile c test limit l).left = w.left ∧
    w.Becomes (w.assignWhile c test limit l)
      ((l.filter fun f => (w.state.filters.get f).spare).take
        (limit (w.state.circuits.get c) - w.state.countFilters test))
      (.joins c false) := by
  induction l generalizing w with
  | nil => exact ⟨rfl, by rw [List.filter_nil, List.take_nil]; exact .refl w _⟩
  | cons f l ih =>
    obtain ⟨fresh, rest⟩ := List.nodup_cons.1 hl
    have unfoldStep : w.assignWhile c test limit (f :: l) =
        (if (w.state.filters.get f).spare && w.state.countFilters test < limit (w.state.circuits.get c) then
          w.assign c false f else w).assignWhile c test limit l := rfl
    rw [unfoldStep]
    by_cases hs : (w.state.filters.get f).spare = true
    · by_cases hn : w.state.countFilters test < limit (w.state.circuits.get c)
      · obtain ⟨left, tail⟩ := ih rest (w.assign c false f)
        have first := w.assign_becomes c false f
        have others : l.filter (fun g => ((w.assign c false f).state.filters.get g).spare) =
            l.filter fun g => (w.state.filters.get g).spare :=
          List.filter_congr fun g m => by
            have e : g ≠ f := fun k => fresh (k ▸ m)
            rw [first.2.2 g, if_neg (by simpa using e)]
        have circuits : (w.assign c false f).state.circuits = w.state.circuits := rfl
        have count := PassWork.countFilters_assign (b := false) (c := c) hs off on
        rw [others, circuits, count] at tail
        rw [if_pos (by simp [hs, hn])]
        refine ⟨left, ?_⟩
        obtain ⟨n, hm⟩ : ∃ n, limit (w.state.circuits.get c) - w.state.countFilters test = n + 1 :=
          ⟨limit (w.state.circuits.get c) - w.state.countFilters test - 1, by omega⟩
        have hm' : limit (w.state.circuits.get c) - (w.state.countFilters test + 1) = n := by omega
        rw [hm'] at tail
        rw [List.filter_cons_of_pos (p := fun f => (w.state.filters.get f).spare) hs, hm, List.take_succ_cons]
        refine first.trans tail fun g m => ?_
        rw [List.mem_singleton.1 m]
        exact fun k => fresh (List.mem_filter.1 (List.mem_of_mem_take k)).1
      · have full : limit (w.state.circuits.get c) - w.state.countFilters test = 0 := by omega
        obtain ⟨left, tail⟩ := ih rest w
        rw [if_neg (by simp [hn])]
        rw [full] at tail ⊢
        exact ⟨left, by simpa using tail⟩
    · rw [if_neg (by simp [hs]), List.filter_cons_of_neg (p := fun f => (w.state.filters.get f).spare) hs]
      exact ih rest w

end Sys2Proof.Machine
end

section
/-! SUPPORT. Each step of an allocation pass by its rule (01 R15 to R20). -/

namespace Sys2Proof.Machine

variable {w u : PassWork}

/-! ## The counts and tests of the steps -/

theorem State.activeCount_eq (s : State) (c : CircuitId) :
    (s.countFilters fun r => r.circuit == some c && (r.state == .service || r.state == .joining)) = s.activeCount c := by
  unfold State.activeCount
  congr 1
  funext r
  exact Bool.and_comm ..

theorem State.serviceCount_eq (s : State) (c : CircuitId) :
    (s.countFilters fun r => r.circuit == some c && r.state == .service) = s.serviceCount c := by
  unfold State.serviceCount
  congr 1
  funext r
  exact Bool.and_comm ..

theorem State.heldCount_eq (s : State) (c : CircuitId) :
    (s.countFilters fun r => r.circuit == some c &&
      (r.state == .service || r.state == .joining || (r.state == .cleaning && !r.releaseOnReturn))) = s.heldCount c := by
  unfold State.heldCount
  congr 1
  funext r
  rw [FilterRecord.heldBy, FilterRecord.activeOn, FilterRecord.on, Bool.and_comm, Bool.and_or_distrib_right]

theorem FilterRecord.serves_iff {r : FilterRecord} {c : CircuitId} :
    r.serves c = true ↔ r.state = .service ∧ r.circuit = some c := by
  simp [FilterRecord.serves, FilterRecord.on]

theorem State.floorBlocked_iff {s : State} {c : CircuitId} :
    s.floorBlocked c = true ↔
      ∃ e ∈ s.queue, e.eligibility = .floorBlocked ∧ (s.filters.get e.filter).state = .service ∧
        (s.filters.get e.filter).circuit = some c := by
  simp [State.floorBlocked, FilterRecord.serves_iff]

theorem State.hasCover_iff {s : State} {c : CircuitId} :
    s.hasCover c = true ↔ ∃ f, (s.filters.get f).cover = true ∧ (s.filters.get f).circuit = some c := by
  simp [State.hasCover, FilterRecord.on, mem_allFilters]

theorem State.hasCleaning_iff {s : State} {c : CircuitId} :
    s.hasCleaning c = true ↔ ∃ f, (s.filters.get f).state = .cleaning ∧ (s.filters.get f).circuit = some c := by
  simp [State.hasCleaning, FilterRecord.on, mem_allFilters]

theorem FilterRecord.spare_state {r : FilterRecord} (h : r.spare = true) : r.state = .standby := by
  simp only [FilterRecord.spare, Bool.and_eq_true, beq_iff_eq] at h
  exact h.1

theorem FilterRecord.spare_not_active {r : FilterRecord} (h : r.spare = true) (c : CircuitId) : r.activeOn c = false := by
  simp [FilterRecord.activeOn, FilterRecord.spare_state h]

theorem FilterRecord.spare_not_held {r : FilterRecord} (h : r.spare = true) (c : CircuitId) : r.heldBy c = false := by
  simp [FilterRecord.heldBy, FilterRecord.activeOn, FilterRecord.spare_state h]

theorem FilterRecord.joins_active (r : FilterRecord) (c : CircuitId) (b : Bool) : (r.joins c b).activeOn c = true := by
  simp [FilterRecord.joins, FilterRecord.outside, FilterRecord.activeOn, FilterRecord.on]

theorem FilterRecord.joins_held (r : FilterRecord) (c : CircuitId) (b : Bool) : (r.joins c b).heldBy c = true := by
  rw [FilterRecord.heldBy, FilterRecord.joins_active, Bool.true_or]

theorem PassWork.Becomes.filters_set {f : FilterId} {g : FilterRecord → FilterRecord} (h : w.Becomes u [f] g) :
    u.state.filters = w.state.filters.set f (g (w.state.filters.get f)) := by
  refine Bank.ext_get fun k => ?_
  rw [h.2.2, Bank.get_set]
  by_cases e : k = f
  · subst e; simp
  · simp [e]

/-! ## Step 1: minimums (01 R15) -/

theorem PassWork.meetMinimum_joins (w : PassWork) (c : CircuitId) :
    (w.meetMinimum c).left = w.left ∧
      w.Becomes (w.meetMinimum c) (w.spares.take ((w.state.circuits.get c).minimum - w.state.activeCount c))
        (.joins c false) :=
  PassWork.assignWhile_joins (limit := CircuitRecord.minimum) (test := fun r => r.activeOn c)
    (fun _ h => FilterRecord.spare_not_active h c) (fun r => r.joins_active c false) allFilters_nodup w

/-! ## Step 2: transfers (01 R16) -/

/-- The donor is the last circuit of the order that has more in SERVICE than it keeps. -/
theorem State.donor_eq (s : State) (c : CircuitId) :
    s.donor c = [s.settings.priority.fourth, s.settings.priority.third, s.settings.priority.second,
      s.settings.priority.first].find? fun d => decide (d ≠ c ∧ s.keepLevel d < s.serviceCount d) := by
  unfold State.donor
  congr 1
  funext d
  rw [Bool.decide_and]
  congr 1
  by_cases e : d = c <;> simp [e]

theorem PassWork.transfer_of_none {c : CircuitId}
    (h : ¬ w.state.activeCount c < (w.state.circuits.get c).minimum ∨ w.state.donor c = none) : w.transfer c = w := by
  unfold PassWork.transfer
  split
  · next short => rw [h.resolve_left (absurd short)]
  · rfl

theorem PassWork.transfer_of_some {c d : CircuitId} {f : FilterId}
    (short : w.state.activeCount c < (w.state.circuits.get c).minimum) (hd : w.state.donor c = some d)
    (hf : w.state.gift d = some f) :
    w.Becomes (w.transfer c) [f] (.joins c false) ∧ (w.transfer c).left = w.left ++ [d] := by
  unfold PassWork.transfer
  rw [if_pos short, hd]
  dsimp only
  rw [hf]
  exact ⟨w.becomes_move (c := fun y => { y with circuit := some c, cover := false }) (by decide) f _, rfl⟩

/-- The filters of a donor that are no cover reach no further than its keep level exactly where the model says that only
its cover stands above. -/
theorem State.onlyCoverAbove_iff (s : State) (d : CircuitId) :
    s.onlyCoverAbove d = true ↔
      (s.countFilters fun y => y.circuit == some d && (y.state == .service && !y.cover)) ≤ s.keepLevel d := by
  have same : (allFilters.filter fun f => s.servesAs d false f).length =
      s.countFilters fun y => y.circuit == some d && (y.state == .service && !y.cover) := by
    unfold State.countFilters
    congr 2
    funext f
    simp only [State.servesAs, FilterRecord.serves, FilterRecord.on]
    cases (s.filters.get f).cover <;> cases (s.filters.get f).state == .service <;> simp
  rw [← same]
  simp [State.onlyCoverAbove]

/-- The filter that a donor gives: the highest-numbered of its filters that are no cover, or its cover. -/
theorem State.gift_of {s : State} {d : CircuitId} {f : FilterId} (hf : (s.filters.get f).serves d = true)
    (hc : (s.filters.get f).cover = s.onlyCoverAbove d)
    (high : ∀ g, (s.filters.get g).serves d = true → (s.filters.get g).cover = (s.filters.get f).cover →
      filterNumber g ≤ filterNumber f) : s.gift d = some f := by
  refine find?_highest (by simp [State.servesAs, hf, hc]) fun g h => ?_
  simp only [State.servesAs, Bool.and_eq_true, beq_iff_eq] at h
  exact high g h.1 (h.2.trans hc.symm)

/-- A transfer takes a filter out of SERVICE, or does nothing. -/
theorem PassWork.transfer_lowers (w : PassWork) (c : CircuitId) :
    w.transfer c = w ∨
      (w.transfer c).state.countFilters (fun r => r.state == .service) <
        w.state.countFilters fun r => r.state == .service := by
  by_cases short : w.state.activeCount c < (w.state.circuits.get c).minimum
  · cases hd : w.state.donor c with
    | none => exact .inl (PassWork.transfer_of_none (.inr hd))
    | some d =>
      cases hf : w.state.gift d with
      | none =>
        refine .inl ?_
        unfold PassWork.transfer
        rw [if_pos short, hd]
        dsimp only
        rw [hf]
      | some f =>
        have serving := FilterRecord.serves_state (State.gift_serves hf)
        have k := State.countFilters_update (PassWork.transfer_of_some short hd hf).1.filters_set
          fun r => r.state == .service
        have changed : (FilterState.joining == .service) = false := rfl
        simp [serving, FilterRecord.joins, FilterRecord.outside, changed] at k
        exact .inr (by omega)
  · exact .inl (PassWork.transfer_of_none (.inl short))

/-- Step 2 ends with the minimum met or no donor left. -/
theorem PassWork.meetByTransfer_fixed (w : PassWork) (c : CircuitId) :
    (w.meetByTransfer c).transfer c = w.meetByTransfer c :=
  foldl_repeat_fixed (fun v : PassWork => v.state.countFilters fun r => r.state == .service)
    (fun v => v.transfer_lowers c) allFilters w (State.countFilters_le _ _)

/-! ## Step 3: wanted counts (01 R17) -/

theorem FilterRecord.markedFor_iff {r : FilterRecord} {c : CircuitId} :
    r.markedFor c = true ↔ (r.state = .cleaning ∧ r.circuit = some c) ∧ r.releaseOnReturn = true := by
  simp only [FilterRecord.markedFor, FilterRecord.on, Bool.and_eq_true, beq_iff_eq]
  tauto

theorem PassWork.unmark_of_none {c : CircuitId}
    (h : ¬ w.state.heldCount c < (w.state.circuits.get c).wanted ∨
      ∀ f, ¬ (w.state.filters.get f).markedFor c = true) : w.unmark c = w := by
  unfold PassWork.unmark
  split
  · next wants =>
    have none : allFilters.find? (fun f => (w.state.filters.get f).markedFor c) = none :=
      List.find?_eq_none.2 fun f _ => h.resolve_left (absurd wants) f
    rw [none]
  · rfl

theorem PassWork.unmark_of_some {c : CircuitId} {f : FilterId}
    (wants : w.state.heldCount c < (w.state.circuits.get c).wanted) (hf : (w.state.filters.get f).markedFor c = true)
    (low : ∀ g, (w.state.filters.get g).markedFor c = true → filterNumber f ≤ filterNumber g) :
    w.unmark c = { w with state := w.state.updFilter f fun y => { y with releaseOnReturn := false } } := by
  unfold PassWork.unmark
  rw [if_pos wants, find?_lowest (p := fun f => (w.state.filters.get f).markedFor c) hf low]

/-- Clearing a mark makes no filter spare and none less so. -/
theorem PassWork.unmark_spares (w : PassWork) (c : CircuitId) : (w.unmark c).spares = w.spares := by
  unfold PassWork.unmark
  split
  · split
    · rfl
    · next f _ =>
      refine List.filter_congr fun g _ => ?_
      rw [State.updFilter_filters, Bank.get_set]
      split
      · next e => rw [e]; rfl
      · rfl
  · rfl

theorem PassWork.unmark_frame (w : PassWork) (c : CircuitId) :
    (w.unmark c).left = w.left ∧ (w.unmark c).state.circuits = w.state.circuits := by
  unfold PassWork.unmark
  split
  · split <;> exact ⟨rfl, rfl⟩
  · exact ⟨rfl, rfl⟩

theorem PassWork.meetWanted_joins (w : PassWork) (c : CircuitId) :
    (w.meetWanted c).left = w.left ∧
      (w.unmark c).Becomes (w.meetWanted c)
        (w.spares.take ((w.state.circuits.get c).wanted - (w.unmark c).state.heldCount c)) (.joins c false) := by
  obtain ⟨left, joins⟩ := PassWork.assignWhile_joins (c := c) (limit := CircuitRecord.wanted) (test := fun r => r.heldBy c)
    (fun _ h => FilterRecord.spare_not_held h c) (fun r => r.joins_held c false) allFilters_nodup (w.unmark c)
  obtain ⟨sameLeft, sameCircuits⟩ := w.unmark_frame c
  rw [sameCircuits, show allFilters.filter (fun f => ((w.unmark c).state.filters.get f).spare) = w.spares from
    w.unmark_spares c] at joins
  exact ⟨left.trans sameLeft, joins⟩

/-! ## Step 4: covers (01 R18) -/

theorem PassWork.bringCover_of_none {c : CircuitId}
    (h : ¬ (w.state.floorBlocked c = true ∧ ¬ w.state.hasCover c = true)) : w.bringCover c = w := by
  unfold PassWork.bringCover
  rw [if_neg (by simpa using h)]

theorem PassWork.bringCover_left (w : PassWork) (c : CircuitId) : (w.bringCover c).left = w.left := by
  unfold PassWork.bringCover
  split
  · split <;> rfl
  · rfl

/-- A cover is the lowest-numbered spare filter, where there is one. -/
theorem PassWork.bringCover_joins {c : CircuitId} (h : w.state.floorBlocked c = true ∧ ¬ w.state.hasCover c = true) :
    w.Becomes (w.bringCover c) (w.spares.take 1) (.joins c true) := by
  unfold PassWork.bringCover
  rw [if_pos (by simpa using h)]
  unfold PassWork.spares
  have head := List.head?_filter (p := fun f => (w.state.filters.get f).spare) (l := allFilters)
  cases hf : allFilters.filter fun f => (w.state.filters.get f).spare with
  | nil =>
    rw [hf] at head
    rw [← head]
    exact .refl w _
  | cons f l =>
    rw [hf] at head
    rw [← head]
    exact w.assign_becomes c true f

/-! ## Step 5: releases (01 R19, R20) -/

/-- A circuit holds more than it is allowed. -/
theorem State.surplus_iff (s : State) (c : CircuitId) :
    s.allowedCount c < s.heldCount c ↔
      (s.circuits.get c).wanted + 1 < s.heldCount c ∨
        ((s.circuits.get c).wanted < s.heldCount c ∧ ¬ (0 < (s.circuits.get c).wanted ∧ s.hasCover c = true ∧
          (s.floorBlocked c = true ∨ s.hasCleaning c = true))) := by
  unfold State.allowedCount
  dsimp only
  split
  · next h =>
    simp only [Bool.and_eq_true, Bool.or_eq_true, decide_eq_true_eq] at h
    have allowed : 0 < (s.circuits.get c).wanted ∧ s.hasCover c = true ∧
      (s.floorBlocked c = true ∨ s.hasCleaning c = true) := ⟨h.1.1, h.1.2, h.2⟩
    simp [allowed]
  · next h =>
    have allowed : ¬ (0 < (s.circuits.get c).wanted ∧ s.hasCover c = true ∧
        (s.floorBlocked c = true ∨ s.hasCleaning c = true)) := fun k => h (by simpa [and_assoc] using k)
    simp only [allowed, not_false_eq_true, and_true]
    omega

/-- The rank of a filter among those that a circuit releases, the lowest first; 4 for one that it does not release. -/
def State.releaseRank (s : State) (c : CircuitId) (f : FilterId) : Nat :=
  let y := s.filters.get f
  if y.circuit ≠ some c then 4
  else if (y.state = .service ∨ y.state = .joining) ∧ y.cover = true then 0
  else if y.state = .service then 1
  else if y.state = .joining then 2
  else if y.state = .cleaning ∧ y.releaseOnReturn = false then 3
  else 4

theorem State.releaseRank_zero {s : State} {c : CircuitId} {f : FilterId} :
    ((s.filters.get f).activeOn c && (s.filters.get f).cover) = true ↔ s.releaseRank c f = 0 := by
  simp only [State.releaseRank, FilterRecord.activeOn, FilterRecord.on, Bool.and_eq_true, Bool.or_eq_true, beq_iff_eq]
  split_ifs <;> simp_all

theorem State.releaseRank_one {s : State} {c : CircuitId} {f : FilterId} :
    (s.filters.get f).serves c = true ↔ s.releaseRank c f = 1 ∨
      (s.releaseRank c f = 0 ∧ (s.filters.get f).state = .service) := by
  simp only [State.releaseRank, FilterRecord.serves, FilterRecord.on, Bool.and_eq_true, beq_iff_eq]
  split_ifs <;> simp_all

theorem State.releaseRank_two {s : State} {c : CircuitId} {f : FilterId} :
    ((s.filters.get f).state == .joining && (s.filters.get f).on c) = true ↔ s.releaseRank c f = 2 ∨
      (s.releaseRank c f = 0 ∧ (s.filters.get f).state = .joining) := by
  simp only [State.releaseRank, FilterRecord.on, Bool.and_eq_true, beq_iff_eq]
  split_ifs <;> simp_all

theorem State.releaseRank_three {s : State} {c : CircuitId} {f : FilterId} :
    ((s.filters.get f).state == .cleaning && !(s.filters.get f).releaseOnReturn && (s.filters.get f).on c) = true ↔
      s.releaseRank c f = 3 := by
  simp only [State.releaseRank, FilterRecord.on, Bool.and_eq_true, beq_iff_eq, Bool.not_eq_true']
  split_ifs <;> simp_all
  next k => rcases k.1 with e | e <;> simp [e]

theorem State.firstBy_of_find {s : State} {order : List FilterId} {p : FilterRecord → Bool} (ps : List (FilterRecord → Bool))
    {f : FilterId} (h : order.find? (fun f => p (s.filters.get f)) = some f) : s.firstBy order (p :: ps) = some f := by
  unfold State.firstBy
  rw [h]

theorem State.firstBy_of_not {s : State} {order : List FilterId} {p : FilterRecord → Bool} (ps : List (FilterRecord → Bool))
    (h : ∀ f, ¬ p (s.filters.get f) = true) : s.firstBy order (p :: ps) = s.firstBy order ps := by
  rw [State.firstBy, List.find?_eq_none.2 fun f _ => h f]

/-- Step 5 releases next the highest-numbered filter of the lowest rank. -/
theorem State.nextRelease_of_rank {s : State} {c : CircuitId} {f : FilterId} (hf : s.releaseRank c f ≤ 3)
    (h : ∀ g, s.releaseRank c f ≤ s.releaseRank c g ∧
      (s.releaseRank c g = s.releaseRank c f → filterNumber g ≤ filterNumber f)) : s.nextRelease c = some f := by
  have ranks : s.releaseRank c f = 0 ∨ s.releaseRank c f = 1 ∨ s.releaseRank c f = 2 ∨ s.releaseRank c f = 3 := by omega
  unfold State.nextRelease
  rcases ranks with e | e | e | e
  · refine State.firstBy_of_find _ (find?_highest (State.releaseRank_zero.2 e) fun g k => (h g).2 ?_)
    rw [e, State.releaseRank_zero.1 k]
  · rw [State.firstBy_of_not _ fun g k => ?_]
    · refine State.firstBy_of_find _ (find?_highest (State.releaseRank_one.2 (.inl e)) fun g k => (h g).2 ?_)
      have := (h g).1
      rcases State.releaseRank_one.1 k with r | r <;> omega
    · have := (h g).1
      rw [State.releaseRank_zero] at k
      omega
  · rw [State.firstBy_of_not _ fun g k => ?_, State.firstBy_of_not _ fun g k => ?_]
    · refine State.firstBy_of_find _ (find?_highest (State.releaseRank_two.2 (.inl e)) fun g k => (h g).2 ?_)
      have := (h g).1
      rcases State.releaseRank_two.1 k with r | r <;> omega
    · have := (h g).1
      rcases State.releaseRank_one.1 k with r | r <;> omega
    · have := (h g).1
      rw [State.releaseRank_zero] at k
      omega
  · rw [State.firstBy_of_not _ fun g k => ?_, State.firstBy_of_not _ fun g k => ?_, State.firstBy_of_not _ fun g k => ?_]
    · refine State.firstBy_of_find _ (find?_highest (State.releaseRank_three.2 e) fun g k => (h g).2 ?_)
      rw [e, State.releaseRank_three.1 k]
    · have := (h g).1
      rcases State.releaseRank_two.1 k with r | r <;> omega
    · have := (h g).1
      rcases State.releaseRank_one.1 k with r | r <;> omega
    · have := (h g).1
      rw [State.releaseRank_zero] at k
      omega

theorem State.releaseRank_cleaning {s : State} {c : CircuitId} {f : FilterId} (h : s.releaseRank c f ≤ 3) :
    (s.filters.get f).state = .cleaning ↔ s.releaseRank c f = 3 := by
  revert h
  simp only [State.releaseRank]
  split_ifs <;> simp_all
  next k => rcases k.1 with e | e <;> simp [e]

theorem PassWork.release_of_none {c : CircuitId} (h : ¬ w.state.allowedCount c < w.state.heldCount c) :
    w.release c = w := by
  unfold PassWork.release
  rw [if_neg h]

theorem PassWork.release_of_some {c : CircuitId} {f : FilterId} (surplus : w.state.allowedCount c < w.state.heldCount c)
    (hf : w.state.nextRelease c = some f) : w.release c = w.releaseFilter c f := by
  unfold PassWork.release
  rw [if_pos surplus, hf]

theorem PassWork.releaseFilter_leaves {c : CircuitId} {f : FilterId} (h : (w.state.filters.get f).state ≠ .cleaning) :
    (w.releaseFilter c f).left = w.left ++ [c] ∧
      w.Becomes (w.releaseFilter c f) [f] fun y => { y with circuit := none, cover := false }.outside .leaving := by
  unfold PassWork.releaseFilter
  rw [if_neg h]
  exact ⟨rfl, w.becomes_move (c := fun y => { y with circuit := none, cover := false }) (by decide) f _⟩

theorem PassWork.releaseFilter_marks {c : CircuitId} {f : FilterId} (h : (w.state.filters.get f).state = .cleaning) :
    w.releaseFilter c f = { w with state := w.state.updFilter f fun y => { y with releaseOnReturn := true } } := by
  unfold PassWork.releaseFilter
  rw [if_pos h]

/-- A filter that a circuit holds has a rank. -/
theorem FilterRecord.heldBy_of_mem {s : State} {c : CircuitId} {f : FilterId} (h : (s.filters.get f).heldBy c = true) :
    ∃ p ∈ [fun r : FilterRecord => r.activeOn c && r.cover, fun r => r.serves c, fun r => r.state == .joining && r.on c,
      fun r => r.state == .cleaning && !r.releaseOnReturn && r.on c], p (s.filters.get f) = true := by
  simp only [FilterRecord.heldBy, FilterRecord.activeOn, Bool.or_eq_true, Bool.and_eq_true] at h
  rcases h with ⟨k | k, on⟩ | k
  · exact ⟨fun r => r.serves c, by simp, by simp [FilterRecord.serves, k, on]⟩
  · exact ⟨fun r => r.state == .joining && r.on c, by simp, by simp [k, on]⟩
  · exact ⟨fun r => r.state == .cleaning && !r.releaseOnReturn && r.on c, by simp, by simpa using k⟩

theorem State.firstBy_isSome {s : State} {order : List FilterId} {f : FilterId} (hm : f ∈ order)
    (ps : List (FilterRecord → Bool)) (h : ∃ p ∈ ps, p (s.filters.get f) = true) :
    ∃ g, s.firstBy order ps = some g := by
  induction ps with
  | nil => obtain ⟨p, m, -⟩ := h; cases m
  | cons p ps ih =>
    unfold State.firstBy
    split
    · next g _ => exact ⟨g, rfl⟩
    · next none =>
      obtain ⟨q, m, k⟩ := h
      rcases List.mem_cons.1 m with rfl | m
      · exact absurd k (List.find?_eq_none.1 none f hm)
      · exact ih ⟨q, m, k⟩

/-- A circuit that holds more than it is allowed holds one fewer after a release. -/
theorem PassWork.release_heldCount {c : CircuitId} (surplus : w.state.allowedCount c < w.state.heldCount c) :
    (w.release c).state.heldCount c + 1 = w.state.heldCount c := by
  obtain ⟨f, held⟩ := State.countFilters_pos w.state (Nat.zero_lt_of_lt surplus)
  obtain ⟨g, hg⟩ : ∃ g, w.state.nextRelease c = some g :=
    State.firstBy_isSome (List.mem_reverse.2 (mem_allFilters f)) _ (FilterRecord.heldBy_of_mem held)
  rw [PassWork.release_of_some surplus hg]
  have gives : (w.state.filters.get g).heldBy c = true := by
    obtain ⟨p, m, k⟩ := State.firstBy_some _ hg
    simp only [List.mem_cons, List.not_mem_nil, or_false] at m
    rcases m with rfl | rfl | rfl | rfl <;>
      simp_all [FilterRecord.heldBy, FilterRecord.activeOn, FilterRecord.serves]
  by_cases e : (w.state.filters.get g).state = .cleaning
  · rw [PassWork.releaseFilter_marks e]
    show (w.state.updFilter g fun y => { y with releaseOnReturn := true }).heldCount c + 1 = _
    unfold State.heldCount
    have k := State.countFilters_update (State.updFilter_filters w.state g fun y => { y with releaseOnReturn := true })
      fun r => r.heldBy c
    have gone : ({ w.state.filters.get g with releaseOnReturn := true } : FilterRecord).heldBy c = false := by
      simp [FilterRecord.heldBy, FilterRecord.activeOn, e]
    rw [gives, gone] at k
    simp only [Bool.toNat_true, Bool.toNat_false] at k
    omega
  · unfold State.heldCount
    have k := State.countFilters_update (PassWork.releaseFilter_leaves (c := c) e).2.filters_set fun r => r.heldBy c
    have gone : FilterRecord.heldBy (FilterRecord.outside { w.state.filters.get g with circuit := none, cover := false }
        .leaving) c = false := by
      simp [FilterRecord.heldBy, FilterRecord.activeOn, FilterRecord.outside]
    rw [gives, gone] at k
    simp only [Bool.toNat_true, Bool.toNat_false] at k
    omega

theorem PassWork.release_circuits (w : PassWork) (c : CircuitId) : (w.release c).state.circuits = w.state.circuits := by
  unfold PassWork.release PassWork.releaseFilter
  split
  · split
    · rfl
    · split <;> rfl
  · rfl

theorem PassWork.releaseSurplus_circuits (w : PassWork) (c : CircuitId) :
    (w.releaseSurplus c).state.circuits = w.state.circuits := by
  unfold PassWork.releaseSurplus
  induction allFilters generalizing w with
  | nil => rfl
  | cons f l ih => exact (ih _).trans (w.release_circuits c)

/-- Step 5 ends with no more held than allowed. -/
theorem PassWork.releaseSurplus_done (w : PassWork) (c : CircuitId) :
    ¬ (w.releaseSurplus c).state.allowedCount c < (w.releaseSurplus c).state.heldCount c := by
  have lowers : ∀ v : PassWork, v.release c = v ∨ (v.release c).state.heldCount c < v.state.heldCount c := fun v => by
    by_cases surplus : v.state.allowedCount c < v.state.heldCount c
    · exact .inr (by have := PassWork.release_heldCount surplus; omega)
    · exact .inl (PassWork.release_of_none surplus)
  have fixed : (w.releaseSurplus c).release c = w.releaseSurplus c := by
    unfold PassWork.releaseSurplus
    exact foldl_repeat_fixed (step := fun v => v.release c) (fun v : PassWork => v.state.heldCount c) lowers allFilters w
      (State.countFilters_le w.state fun r => r.heldBy c)
  intro surplus
  have k := PassWork.release_heldCount surplus
  rw [fixed] at k
  omega

/-! ## The end of step 5 (01 R20) -/

theorem State.loseCover_frame (s : State) (c : Option CircuitId) : s.loseCover c = { s with filters := (s.loseCover c).filters } := by
  cases c <;> rfl

theorem State.loseCover_record (s : State) (c : CircuitId) (f : FilterId) :
    (s.loseCover (some c)).filters.get f =
      if (s.filters.get f).circuit = some c then { s.filters.get f with cover := false } else s.filters.get f := by
  have record : (s.loseCover (some c)).filters.get f =
      { s.filters.get f with cover := (s.filters.get f).cover && !(s.filters.get f).on c } := by
    cases f <;> rfl
  rw [record]
  split
  · next e => simp [FilterRecord.on, e]
  · next e =>
    have off : (s.filters.get f).on c = false := by simpa [FilterRecord.on] using e
    simp [off]

theorem PassWork.clearCover_of_need {c : CircuitId} (h : w.state.floorBlocked c = true ∨ w.state.hasCleaning c = true) :
    w.clearCover c = w := by
  unfold PassWork.clearCover
  rw [if_pos (by simpa using h)]

theorem PassWork.clearCover_of_none {c : CircuitId} (h : ¬ (w.state.floorBlocked c = true ∨ w.state.hasCleaning c = true)) :
    w.clearCover c = { w with state := w.state.loseCover (some c) } := by
  unfold PassWork.clearCover
  rw [if_neg (by simpa using h)]

end Sys2Proof.Machine
end

section
/-! PROOFS. O57: the steps of an allocation pass, each clause from the lemma on its step. -/

namespace Sys2Proof.Machine

variable (w : PassWork) (c : CircuitId)

/-- A pass is its steps, each over the circuits in priority order. -/
theorem State.passSteps_eq (s : State) : s.passSteps =
    [PassWork.meetMinimum, PassWork.meetByTransfer, PassWork.meetWanted, PassWork.bringCover, PassWork.releaseSurplus,
      PassWork.clearCover].foldl (fun w step => s.priority.foldl step w) { state := s, changed := [], left := [] } := by
  unfold State.passSteps
  simp only [List.foldl_cons, List.foldl_nil]

/-- The transfer clause: from the last donor of the order, the highest-numbered filter of the kind that it gives. -/
theorem PassWork.transfer_rule {d : CircuitId} {f : FilterId}
    (short : w.state.activeCount c < (w.state.circuits.get c).minimum) (hd : w.state.donor c = some d)
    (hs : (w.state.filters.get f).state = .service ∧ (w.state.filters.get f).circuit = some d)
    (hc : (w.state.filters.get f).cover = true ↔
      (w.state.countFilters fun y => y.circuit == some d && (y.state == .service && !y.cover)) ≤ w.state.keepLevel d)
    (high : ∀ g, (w.state.filters.get g).state = .service ∧ (w.state.filters.get g).circuit = some d →
      (w.state.filters.get g).cover = (w.state.filters.get f).cover → filterNumber g ≤ filterNumber f) :
    w.Becomes (w.transfer c) [f] (.joins c false) ∧ (w.transfer c).left = w.left ++ [d] :=
  PassWork.transfer_of_some short hd
    (State.gift_of (FilterRecord.serves_iff.2 hs) (Bool.eq_iff_iff.2 (hc.trans (State.onlyCoverAbove_iff _ _).symm))
      fun g k => high g (FilterRecord.serves_iff.1 k))

/-- The release clause: the highest-numbered filter of the lowest rank leaves, or is marked where it is CLEANING. -/
theorem PassWork.release_rule {f : FilterId} (surplus : w.state.allowedCount c < w.state.heldCount c)
    (hf : w.state.releaseRank c f ≤ 3)
    (h : ∀ g, w.state.releaseRank c f ≤ w.state.releaseRank c g ∧
      (w.state.releaseRank c g = w.state.releaseRank c f → filterNumber g ≤ filterNumber f)) :
    (w.state.releaseRank c f ≤ 2 → (w.release c).left = w.left ++ [c] ∧
      w.Becomes (w.release c) [f] fun y => { y with circuit := none, cover := false }.outside .leaving) ∧
    (w.state.releaseRank c f = 3 →
      w.release c = { w with state := w.state.updFilter f fun y => { y with releaseOnReturn := true } }) := by
  rw [PassWork.release_of_some surplus (State.nextRelease_of_rank hf h)]
  exact ⟨fun k => PassWork.releaseFilter_leaves fun e => by rw [(State.releaseRank_cleaning hf).1 e] at k; omega,
    fun k => PassWork.releaseFilter_marks ((State.releaseRank_cleaning hf).2 k)⟩

/-- Settles O57: each clause is the lemma on its step, with the model's counts and tests in the statement's terms. -/
theorem passStepsFollowTheirRules : Obligations.PassStepsFollowTheirRules := by
  unfold Obligations.PassStepsFollowTheirRules
  intro record spare serves count service active held becomes joins need blocked covered cleans
  have activeEq : ∀ (w : PassWork) (c : CircuitId), active w c = w.state.activeCount c :=
    fun w c => State.activeCount_eq w.state c
  have serviceEq : ∀ (w : PassWork) (c : CircuitId), service w c = w.state.serviceCount c :=
    fun w c => State.serviceCount_eq w.state c
  have heldEq : ∀ (w : PassWork) (c : CircuitId), held w c = w.state.heldCount c := fun w c => State.heldCount_eq w.state c
  have blockedIff : ∀ (w : PassWork) (c : CircuitId), blocked w c ↔ w.state.floorBlocked c = true :=
    fun w c => (State.floorBlocked_iff (s := w.state) (c := c)).symm
  have coveredIff : ∀ (w : PassWork) (c : CircuitId), covered w c ↔ w.state.hasCover c = true :=
    fun w c => (State.hasCover_iff (s := w.state) (c := c)).symm
  have cleansIff : ∀ (w : PassWork) (c : CircuitId), (∃ f, cleans w c f) ↔ w.state.hasCleaning c = true :=
    fun w c => (State.hasCleaning_iff (s := w.state) (c := c)).symm
  refine ⟨State.passSteps_eq, fun w c => ⟨?_, ?_, w.meetByTransfer_fixed c, ?_, ?_, ?_, ?_⟩⟩
  case refine_1 =>
    rw [activeEq]
    exact w.meetMinimum_joins c
  case refine_2 =>
    intro short keep donates plain order
    have donor : w.state.donor c = order.find? fun d => decide (donates d) := by
      rw [State.donor_eq]
      simp only [donates, serviceEq]
      rfl
    refine ⟨fun h => PassWork.transfer_of_none (h.imp (fun k => by rwa [← activeEq]) fun k => ?_), fun d f => ?_⟩
    · rw [donor]
      exact List.find?_eq_none.2 fun d m => by simpa using k d m
    · intro hs hd hf hc high
      exact w.transfer_rule c (activeEq w c ▸ hs) (donor.trans hd) hf hc high
  case refine_3 =>
    intro u wants marked
    have markedIff : ∀ f, marked f ↔ (w.state.filters.get f).markedFor c = true :=
      fun f => FilterRecord.markedFor_iff.symm
    have wantsIff : wants ↔ w.state.heldCount c < (w.state.circuits.get c).wanted := by rw [← heldEq]
    refine ⟨fun h => PassWork.unmark_of_none ?_, fun f hw hf low => ?_, (w.meetWanted_joins c).1, ?_⟩
    · exact h.imp (fun k => by rwa [← wantsIff]) fun k f => by rw [← markedIff]; exact k f
    · exact PassWork.unmark_of_some (wantsIff.1 hw) ((markedIff f).1 hf) fun g k => low g ((markedIff g).2 k)
    · rw [heldEq]
      exact (w.meetWanted_joins c).2
  case refine_4 =>
    rw [blockedIff, coveredIff]
    exact ⟨w.bringCover_left c, PassWork.bringCover_joins, PassWork.bringCover_of_none⟩
  case refine_5 =>
    intro W surplus rank
    have surplusIff : ∀ v : PassWork, (v.state.circuits.get c).wanted = W →
        (surplus v ↔ v.state.allowedCount c < v.state.heldCount c) := fun v hv => by
      rw [State.surplus_iff, hv]
      simp only [surplus, heldEq, coveredIff, blockedIff, cleansIff]
    have keepsWanted : (w.releaseSurplus c).state.circuits = w.state.circuits := w.releaseSurplus_circuits c
    refine ⟨fun h => PassWork.release_of_none fun k => h ((surplusIff w rfl).2 k), fun f hs hf h => ?_, fun h => ?_⟩
    · exact w.release_rule c ((surplusIff w rfl).1 hs) hf h
    · exact w.releaseSurplus_done c ((surplusIff _ (by rw [keepsWanted])).1 h)
  case refine_6 =>
    intro u
    have none : (¬ blocked w c → (∀ f, ¬ cleans w c f) → u = { w with state := w.state.loseCover (some c) }) :=
      fun hb hc => PassWork.clearCover_of_none fun h => h.elim (fun k => hb ((blockedIff w c).2 k))
        fun k => ((cleansIff w c).2 k).elim hc
    refine ⟨fun h => PassWork.clearCover_of_need (h.imp (blockedIff w c).1 (cleansIff w c).1), fun hb hc => ?_⟩
    rw [none hb hc]
    exact ⟨rfl, rfl, State.loseCover_frame w.state (some c), State.loseCover_record w.state c⟩

end Sys2Proof.Machine
end

section
/-! SUPPORT. What the steps of a pass keep: the counts of the circuits that a step does not serve, the spare filters that are
left, and the states that no pass changes. With them O48. -/

namespace Sys2Proof.Machine

variable {s : State} {w u : PassWork}

/-! ## Filters held by other circuits -/

theorem FilterRecord.heldBy_off {r : FilterRecord} {c : CircuitId} (h : r.circuit ≠ some c) : r.heldBy c = false := by
  have off : r.on c = false := by simpa [FilterRecord.on] using h
  simp [FilterRecord.heldBy, FilterRecord.activeOn, off]

/-- A change of a filter that a circuit holds neither before nor after it leaves what the circuit holds. -/
theorem State.heldCount_same {s t : State} {f : FilterId} {r : FilterRecord} {c : CircuitId}
    (ht : t.filters = s.filters.set f r) (h : r.heldBy c = (s.filters.get f).heldBy c) : t.heldCount c = s.heldCount c := by
  have k := State.countFilters_update ht fun r => r.heldBy c
  rw [h] at k
  exact Nat.add_right_cancel k

theorem PassWork.assign_heldCount {c d : CircuitId} {b : Bool} {f : FilterId} (hs : (w.state.filters.get f).spare = true) :
    (w.assign d b f).state.heldCount c = w.state.heldCount c + if c = d then 1 else 0 := by
  have set := (w.assign_becomes d b f).filters_set
  split
  · next e =>
    subst e
    have k := State.countFilters_update set fun r => r.heldBy c
    rw [FilterRecord.spare_not_held hs, FilterRecord.joins_held] at k
    exact k
  · next e =>
    refine State.heldCount_same set ?_
    rw [FilterRecord.spare_not_held hs]
    exact FilterRecord.heldBy_off fun k => e (by simpa [FilterRecord.joins, FilterRecord.outside] using k.symm)

theorem PassWork.unmark_heldCount (w : PassWork) (c d : CircuitId) :
    w.state.heldCount c ≤ (w.unmark d).state.heldCount c := by
  unfold PassWork.unmark
  split
  · split
    · exact Nat.le_refl _
    · next f hf =>
      have marked := FilterRecord.markedFor_iff.1
        (List.find?_some (p := fun f => (w.state.filters.get f).markedFor d) hf)
      have k := State.countFilters_update
        (State.updFilter_filters w.state f fun y => { y with releaseOnReturn := false }) fun r => r.heldBy c
      have off : (w.state.filters.get f).heldBy c = false := by
        simp [FilterRecord.heldBy, FilterRecord.activeOn, marked]
      rw [off] at k
      exact Nat.le_of_add_right_le (Nat.le_of_eq k.symm)
  · exact Nat.le_refl _

theorem State.nextRelease_on {c : CircuitId} {f : FilterId} (h : s.nextRelease c = some f) :
    (s.filters.get f).circuit = some c := by
  obtain ⟨p, m, k⟩ := State.firstBy_some _ h
  simp only [List.mem_cons, List.not_mem_nil, or_false] at m
  rcases m with rfl | rfl | rfl | rfl <;>
    simp only [FilterRecord.activeOn, FilterRecord.serves, FilterRecord.on, Bool.and_eq_true, beq_iff_eq] at k
  · exact k.1.2
  all_goals exact k.2

/-- A release for one circuit leaves what another holds. -/
theorem PassWork.release_heldCount_ne {c d : CircuitId} (h : c ≠ d) : (w.release d).state.heldCount c = w.state.heldCount c := by
  unfold PassWork.release
  split
  · split
    · rfl
    · next f hf =>
      have other : (w.state.filters.get f).circuit ≠ some c := by
        rw [State.nextRelease_on hf]
        exact fun k => h (Option.some.inj k).symm
      by_cases e : (w.state.filters.get f).state = .cleaning
      · rw [PassWork.releaseFilter_marks e]
        refine State.heldCount_same (State.updFilter_filters w.state f fun y => { y with releaseOnReturn := true }) ?_
        rw [FilterRecord.heldBy_off other]
        exact FilterRecord.heldBy_off other
      · refine State.heldCount_same (PassWork.releaseFilter_leaves (c := d) e).2.filters_set ?_
        rw [FilterRecord.heldBy_off other, FilterRecord.heldBy_off (by simp [FilterRecord.outside])]
  · rfl

/-- The end of step 5 changes cover marks alone. -/
theorem PassWork.clearCover_record (w : PassWork) (c : CircuitId) (f : FilterId) :
    ∃ b, (w.clearCover c).state.filters.get f = { w.state.filters.get f with cover := b } := by
  by_cases h : w.state.floorBlocked c = true ∨ w.state.hasCleaning c = true
  · rw [PassWork.clearCover_of_need h]
    exact ⟨_, rfl⟩
  · rw [PassWork.clearCover_of_none h, State.loseCover_record]
    split
    · exact ⟨false, rfl⟩
    · exact ⟨_, rfl⟩

theorem PassWork.clearCover_heldCount (w : PassWork) (c d : CircuitId) :
    (w.clearCover d).state.heldCount c = w.state.heldCount c := by
  unfold State.heldCount State.countFilters
  congr 2
  funext f
  obtain ⟨b, e⟩ := w.clearCover_record d f
  rw [e]
  rfl

/-! ## The circuit records -/

theorem PassWork.clearCover_circuits (w : PassWork) (c : CircuitId) :
    (w.clearCover c).state.circuits = w.state.circuits := by
  unfold PassWork.clearCover
  split
  · rfl
  · rw [State.loseCover_frame]

theorem State.wanted_le_allowed (s : State) (c : CircuitId) : (s.circuits.get c).wanted ≤ s.allowedCount c := by
  unfold State.allowedCount
  dsimp only
  split <;> omega

theorem State.allowed_le (s : State) (c : CircuitId) : s.allowedCount c ≤ (s.circuits.get c).wanted + 1 := by
  unfold State.allowedCount
  dsimp only
  split <;> omega

/-! ## Steps and what they keep -/

/-- The elementary changes of a pass keep a property: spare filters assigned, transfers, marks cleared, releases, and
covers that lose their mark. -/
def PassWork.Kept (P : PassWork → Prop) : Prop :=
  (∀ (w : PassWork) (c : CircuitId) (b : Bool) (f : FilterId), (w.state.filters.get f).spare = true → P w →
    P (w.assign c b f)) ∧
  (∀ (w : PassWork) (c : CircuitId), P w → P (w.transfer c)) ∧
  (∀ (w : PassWork) (c : CircuitId), P w → P (w.unmark c)) ∧
  (∀ (w : PassWork) (c : CircuitId), P w → P (w.release c)) ∧
  ∀ (w : PassWork) (c : CircuitId), P w → P (w.clearCover c)

theorem PassWork.foldl_keeps {α : Type} {P : PassWork → Prop} {g : PassWork → α → PassWork}
    (hg : ∀ (w : PassWork) (x : α), P w → P (g w x)) (l : List α) (h : P w) : P (l.foldl g w) := by
  induction l generalizing w with
  | nil => exact h
  | cons x l ih => exact ih (hg w x h)

/-- A fold whose step for an element establishes the property of that element, and keeps those of the others. -/
theorem PassWork.foldl_establishes {α : Type} {P : α → PassWork → Prop} {g : PassWork → α → PassWork}
    (new : ∀ w c, P c (g w c)) (keep : ∀ w c d, P c w → P c (g w d)) (l : List α) (w : PassWork) :
    ∀ c ∈ l, P c (l.foldl g w) := by
  induction l generalizing w with
  | nil => intro c m; cases m
  | cons d l ih =>
    intro c m
    rcases List.mem_cons.1 m with rfl | m
    · exact PassWork.foldl_keeps (P := P c) (fun w d k => keep w c d k) l (new w c)
    · exact ih _ c m

section

variable {P : PassWork → Prop} (hP : PassWork.Kept P)

include hP

theorem PassWork.Kept.assignSpare (h : P w) (c : CircuitId) (b n : Bool) (f : FilterId) :
    P (if (w.state.filters.get f).spare && n then w.assign c b f else w) := by
  split
  · next k =>
    rw [Bool.and_eq_true] at k
    exact hP.1 w c b f k.1 h
  · exact h

theorem PassWork.Kept.meetMinimum (h : P w) (c : CircuitId) : P (w.meetMinimum c) := by
  unfold PassWork.meetMinimum
  exact PassWork.foldl_keeps (P := P) (fun _ f k => PassWork.Kept.assignSpare hP k c false _ f) allFilters h

theorem PassWork.Kept.meetByTransfer (h : P w) (c : CircuitId) : P (w.meetByTransfer c) := by
  unfold PassWork.meetByTransfer
  exact PassWork.foldl_keeps (P := P) (fun w _ k => hP.2.1 w c k) allFilters h

theorem PassWork.Kept.meetWanted (h : P w) (c : CircuitId) : P (w.meetWanted c) := by
  unfold PassWork.meetWanted
  exact PassWork.foldl_keeps (P := P) (fun _ f k => PassWork.Kept.assignSpare hP k c false _ f) allFilters (hP.2.2.1 w c h)

theorem PassWork.Kept.bringCover (h : P w) (c : CircuitId) : P (w.bringCover c) := by
  unfold PassWork.bringCover
  split
  · split
    · exact h
    · next f hf => exact hP.1 w c true f (List.find?_some (p := fun f => (w.state.filters.get f).spare) hf) h
  · exact h

theorem PassWork.Kept.releaseSurplus (h : P w) (c : CircuitId) : P (w.releaseSurplus c) := by
  unfold PassWork.releaseSurplus
  exact PassWork.foldl_keeps (P := P) (fun w _ k => hP.2.2.2.1 w c k) allFilters h

/-- What every elementary change keeps, a pass keeps. -/
theorem PassWork.Kept.passSteps (h : P { state := s, changed := [], left := [] }) : P s.passSteps := by
  unfold State.passSteps
  exact PassWork.foldl_keeps (P := P) (fun w c k => hP.2.2.2.2 w c k) _
    (PassWork.foldl_keeps (P := P) (fun _ c k => PassWork.Kept.releaseSurplus hP k c) _
      (PassWork.foldl_keeps (P := P) (fun _ c k => PassWork.Kept.bringCover hP k c) _
        (PassWork.foldl_keeps (P := P) (fun _ c k => PassWork.Kept.meetWanted hP k c) _
          (PassWork.foldl_keeps (P := P) (fun _ c k => PassWork.Kept.meetByTransfer hP k c) _
            (PassWork.foldl_keeps (P := P) (fun _ c k => PassWork.Kept.meetMinimum hP k c) _ h)))))

end

end Sys2Proof.Machine
end

section
/-! PROOFS. O48: what a pass leaves of the wanted counts, and the states that it does not change. -/

namespace Sys2Proof.Machine

variable {s : State} {w : PassWork} {c d : CircuitId} {f g : FilterId}

/-! ## The cases of a transfer and of a release -/

theorem PassWork.transfer_cases (w : PassWork) (c : CircuitId) :
    w.transfer c = w ∨ ∃ f, (w.state.filters.get f).state = .service ∧ w.Becomes (w.transfer c) [f] (.joins c false) := by
  by_cases short : w.state.activeCount c < (w.state.circuits.get c).minimum
  · cases hd : w.state.donor c with
    | none => exact .inl (PassWork.transfer_of_none (.inr hd))
    | some d =>
      cases hf : w.state.gift d with
      | none =>
        refine .inl ?_
        unfold PassWork.transfer
        rw [if_pos short, hd]
        dsimp only
        rw [hf]
      | some f =>
        exact .inr ⟨f, FilterRecord.serves_state (State.gift_serves hf), (PassWork.transfer_of_some short hd hf).1⟩
  · exact .inl (PassWork.transfer_of_none (.inl short))

/-- A record that leaves its circuit (01 R19). -/
def FilterRecord.leaves (r : FilterRecord) : FilterRecord :=
  { r with circuit := none, cover := false }.outside .leaving

theorem PassWork.release_cases (w : PassWork) (c : CircuitId) :
    w.release c = w ∨ ∃ f,
      ((w.state.filters.get f).state = .cleaning ∧
        w.release c = { w with state := w.state.updFilter f fun y => { y with releaseOnReturn := true } }) ∨
      (((w.state.filters.get f).state = .service ∨ (w.state.filters.get f).state = .joining) ∧
        w.Becomes (w.release c) [f] .leaves) := by
  by_cases surplus : w.state.allowedCount c < w.state.heldCount c
  · cases hf : w.state.nextRelease c with
    | none =>
      refine .inl ?_
      unfold PassWork.release
      rw [if_pos surplus, hf]
    | some f =>
      refine .inr ⟨f, ?_⟩
      rw [PassWork.release_of_some surplus hf]
      rcases State.nextRelease_state hf with e | e | e
      · exact .inr ⟨.inl e, (PassWork.releaseFilter_leaves (by rw [e]; decide)).2⟩
      · exact .inr ⟨.inr e, (PassWork.releaseFilter_leaves (by rw [e]; decide)).2⟩
      · exact .inl ⟨e, PassWork.releaseFilter_marks e⟩
  · exact .inl (PassWork.release_of_none surplus)

theorem PassWork.unmark_cases (w : PassWork) (c : CircuitId) :
    w.unmark c = w ∨ ∃ f, (w.state.filters.get f).state = .cleaning ∧
      w.unmark c = { w with state := w.state.updFilter f fun y => { y with releaseOnReturn := false } } := by
  unfold PassWork.unmark
  split
  · split
    · exact .inl rfl
    · next f hf =>
      exact .inr ⟨f, (FilterRecord.markedFor_iff.1
        (List.find?_some (p := fun f => (w.state.filters.get f).markedFor c) hf)).1.1, rfl⟩
  · exact .inl rfl

/-! ## Spare filters left while a circuit is short of its wanted count -/

/-- Where a filter is spare the circuit has its wanted count. -/
def PassWork.Fills (c : CircuitId) (f : FilterId) (w : PassWork) : Prop :=
  (w.state.filters.get f).spare = true → (w.state.circuits.get c).wanted ≤ w.state.heldCount c

theorem PassWork.Becomes.spare {u : PassWork} {r : FilterRecord → FilterRecord} (h : w.Becomes u [g] r)
    (hr : ∀ y, (r y).spare = false) :
    (u.state.filters.get f).spare = true → (w.state.filters.get f).spare = true ∧ f ≠ g := by
  rw [h.2.2]
  split
  · rw [hr]; exact fun k => nomatch k
  · next m => exact fun k => ⟨k, fun e => m (List.mem_singleton.2 e)⟩

theorem FilterRecord.joins_not_spare (r : FilterRecord) (c : CircuitId) (b : Bool) : (r.joins c b).spare = false := rfl

theorem FilterRecord.leaves_not_spare (r : FilterRecord) : r.leaves.spare = false := rfl

theorem PassWork.Fills.assign (h : w.Fills c f) {b : Bool} (hs : (w.state.filters.get g).spare = true) :
    (w.assign d b g).Fills c f :=
  fun k => by
    rw [PassWork.assign_heldCount hs]
    exact (h ((w.assign_becomes d b g).spare (fun y => y.joins_not_spare d b) k).1).trans (Nat.le_add_right _ _)

theorem PassWork.Fills.unmark (h : w.Fills c f) (d : CircuitId) : (w.unmark d).Fills c f :=
  fun k => by
    have spare : (w.state.filters.get f).spare = true := by
      have m : f ∈ (w.unmark d).spares := List.mem_filter.2 ⟨mem_allFilters f, k⟩
      rw [w.unmark_spares] at m
      exact (List.mem_filter.1 m).2
    rw [(w.unmark_frame d).2]
    exact (h spare).trans (w.unmark_heldCount c d)

theorem PassWork.Fills.clearCover (h : w.Fills c f) (d : CircuitId) : (w.clearCover d).Fills c f :=
  fun k => by
    obtain ⟨b, e⟩ := w.clearCover_record d f
    rw [w.clearCover_circuits, w.clearCover_heldCount]
    exact h (by rw [e] at k; exact k)

theorem PassWork.release_spare (w : PassWork) (d : CircuitId) (k : ((w.release d).state.filters.get f).spare = true) :
    (w.state.filters.get f).spare = true := by
  rcases w.release_cases d with e | ⟨g, ⟨hc, e⟩ | ⟨-, e⟩⟩
  · rwa [e] at k
  · rw [e, State.updFilter_filters, Bank.get_set] at k
    split at k
    · next e' => rw [e']; exact k
    · exact k
  · exact (e.spare FilterRecord.leaves_not_spare k).1

theorem PassWork.Fills.release (h : w.Fills c f) (d : CircuitId) : (w.release d).Fills c f :=
  fun k => by
    have before := h (w.release_spare d k)
    rw [w.release_circuits]
    by_cases e : c = d
    · subst e
      by_cases surplus : w.state.allowedCount c < w.state.heldCount c
      · have drop := PassWork.release_heldCount surplus
        have allowed := w.state.wanted_le_allowed c
        omega
      · rwa [PassWork.release_of_none surplus]
    · rwa [PassWork.release_heldCount_ne e]

/-- Step 3 for a circuit leaves no spare filter while the circuit is short. -/
theorem PassWork.meetWanted_fills (w : PassWork) (c : CircuitId) (f : FilterId) : (w.meetWanted c).Fills c f := by
  unfold PassWork.meetWanted
  refine PassWork.foldl_establishes (P := fun f w => w.Fills c f) (fun w f => ?_) (fun w f g h => ?_) allFilters _ f
    (mem_allFilters f)
  · split
    · next k =>
      rw [Bool.and_eq_true] at k
      exact fun n => absurd rfl ((w.assign_becomes c false f).spare (fun y => y.joins_not_spare c false) n).2
    · next k =>
      intro n
      simp only [n, Bool.true_and, decide_eq_true_eq] at k
      exact Nat.not_lt.1 k
  · split
    · next k =>
      rw [Bool.and_eq_true] at k
      exact h.assign k.1
    · exact h

theorem PassWork.Fills.meetWanted (h : w.Fills c f) (d : CircuitId) : (w.meetWanted d).Fills c f := by
  unfold PassWork.meetWanted
  refine PassWork.foldl_keeps (P := PassWork.Fills c f) (fun w g h => ?_) allFilters (h.unmark d)
  split
  · next k =>
    rw [Bool.and_eq_true] at k
    exact h.assign k.1
  · exact h

theorem PassWork.Fills.bringCover (h : w.Fills c f) (d : CircuitId) : (w.bringCover d).Fills c f := by
  unfold PassWork.bringCover
  split
  · split
    · exact h
    · next g hg => exact h.assign (List.find?_some (p := fun f => (w.state.filters.get f).spare) hg)
  · exact h

theorem PassWork.Fills.releaseSurplus (h : w.Fills c f) (d : CircuitId) : (w.releaseSurplus d).Fills c f := by
  unfold PassWork.releaseSurplus
  exact PassWork.foldl_keeps (P := PassWork.Fills c f) (fun w _ h => h.release d) allFilters h

/-- After a pass a spare filter is left only where every circuit of the order has its wanted count. -/
theorem State.passSteps_fills (s : State) (hc : c ∈ s.priority) (f : FilterId) : s.passSteps.Fills c f := by
  unfold State.passSteps
  refine PassWork.foldl_keeps (P := PassWork.Fills c f) (fun w d h => h.clearCover d) _ ?_
  refine PassWork.foldl_keeps (P := PassWork.Fills c f) (fun w d h => h.releaseSurplus d) _ ?_
  refine PassWork.foldl_keeps (P := PassWork.Fills c f) (fun w d h => h.bringCover d) _ ?_
  exact PassWork.foldl_establishes (P := fun c w => w.Fills c f) (fun w c => w.meetWanted_fills c f)
    (fun w c d h => h.meetWanted d) _ _ c hc

/-! ## The bound of what a circuit holds -/

/-- The circuit holds at most one filter more than it wants. -/
def PassWork.Bounded (c : CircuitId) (w : PassWork) : Prop :=
  w.state.heldCount c ≤ (w.state.circuits.get c).wanted + 1

theorem PassWork.releaseSurplus_bounded (w : PassWork) (c : CircuitId) : (w.releaseSurplus c).Bounded c :=
  (Nat.not_lt.1 (w.releaseSurplus_done c)).trans (State.allowed_le _ c)

theorem PassWork.releaseSurplus_heldCount_ne (h : c ≠ d) (w : PassWork) :
    (w.releaseSurplus d).state.heldCount c = w.state.heldCount c := by
  unfold PassWork.releaseSurplus
  induction allFilters generalizing w with
  | nil => rfl
  | cons f l ih => exact (ih _).trans (PassWork.release_heldCount_ne h)

theorem PassWork.Bounded.releaseSurplus (h : w.Bounded c) (d : CircuitId) : (w.releaseSurplus d).Bounded c := by
  by_cases e : c = d
  · subst e; exact w.releaseSurplus_bounded c
  · unfold PassWork.Bounded
    rw [PassWork.releaseSurplus_heldCount_ne e, w.releaseSurplus_circuits]
    exact h

theorem PassWork.Bounded.clearCover (h : w.Bounded c) (d : CircuitId) : (w.clearCover d).Bounded c := by
  unfold PassWork.Bounded
  rw [w.clearCover_heldCount, w.clearCover_circuits]
  exact h

theorem State.passSteps_bounded (s : State) (hc : c ∈ s.priority) : s.passSteps.Bounded c := by
  unfold State.passSteps
  refine PassWork.foldl_keeps (P := PassWork.Bounded c) (fun w d h => h.clearCover d) _ ?_
  exact PassWork.foldl_establishes (P := PassWork.Bounded) (fun w c => w.releaseSurplus_bounded c)
    (fun w c d h => h.releaseSurplus d) _ _ c hc

/-! ## The states that a pass changes -/

/-- A record as a pass may leave it: its rinse owed mark as it was, and its state too unless it was spare, in SERVICE or
JOINING and is now JOINING or LEAVING. -/
def FilterRecord.PassedFrom (r y : FilterRecord) : Prop :=
  y.rinseOwed = r.rinseOwed ∧ (y.state = r.state ∨
    ((r.spare = true ∨ r.state = .service ∨ r.state = .joining) ∧ (y.state = .joining ∨ y.state = .leaving)))

theorem FilterRecord.PassedFrom.same {r y z : FilterRecord} (h : r.PassedFrom y) (owed : z.rinseOwed = y.rinseOwed)
    (state : z.state = y.state) : r.PassedFrom z := by
  unfold FilterRecord.PassedFrom
  rw [owed, state]
  exact h

theorem FilterRecord.PassedFrom.move {r y z : FilterRecord} (h : r.PassedFrom y)
    (old : y.spare = true ∨ y.state = .service ∨ y.state = .joining) (owed : z.rinseOwed = y.rinseOwed)
    (state : z.state = .joining ∨ z.state = .leaving) : r.PassedFrom z := by
  obtain ⟨sameOwed, stays | ⟨origin, -⟩⟩ := h
  · refine ⟨owed.trans sameOwed, .inr ⟨?_, state⟩⟩
    simpa only [FilterRecord.spare, stays, sameOwed] using old
  · exact ⟨owed.trans sameOwed, .inr ⟨origin, state⟩⟩

/-- Every record is as a pass may leave that of `s`, and the circuit records are those of `s`. -/
def PassWork.Tracks (s : State) (w : PassWork) : Prop :=
  w.state.circuits = s.circuits ∧ ∀ f, (s.filters.get f).PassedFrom (w.state.filters.get f)

theorem PassWork.Tracks.becomes {u : PassWork} {r : FilterRecord → FilterRecord} (h : w.Tracks s) (k : w.Becomes u [g] r)
    (old : (w.state.filters.get g).spare = true ∨ (w.state.filters.get g).state = .service ∨
      (w.state.filters.get g).state = .joining)
    (owed : ∀ y, (r y).rinseOwed = y.rinseOwed) (state : ∀ y, (r y).state = .joining ∨ (r y).state = .leaving) :
    u.Tracks s := by
  refine ⟨by rw [k.2.1]; exact h.1, fun f => ?_⟩
  rw [k.2.2]
  split
  · next m =>
    rw [List.mem_singleton.1 m]
    exact (h.2 g).move old (owed _) (state _)
  · exact h.2 f

theorem PassWork.Tracks.mark (h : w.Tracks s) (g : FilterId) (b : Bool) :
    PassWork.Tracks s { w with state := w.state.updFilter g fun y => { y with releaseOnReturn := b } } := by
  refine ⟨h.1, fun f => ?_⟩
  rw [State.updFilter_filters, Bank.get_set]
  split
  · next e => subst e; exact (h.2 f).same rfl rfl
  · exact h.2 f

theorem PassWork.tracks_kept (s : State) : PassWork.Kept (PassWork.Tracks s) := by
  refine ⟨fun w c b f hs h => ?_, fun w c h => ?_, fun w c h => ?_, fun w c h => ?_, fun w c h => ?_⟩
  case refine_1 => exact h.becomes (w.assign_becomes c b f) (.inl hs) (fun _ => rfl) fun _ => .inl rfl
  case refine_2 =>
    rcases w.transfer_cases c with e | ⟨f, serving, k⟩
    · rw [e]; exact h
    · exact h.becomes k (.inr (.inl serving)) (fun _ => rfl) fun _ => .inl rfl
  case refine_3 =>
    rcases w.unmark_cases c with e | ⟨f, -, e⟩
    · rw [e]; exact h
    · rw [e]; exact h.mark f false
  case refine_4 =>
    rcases w.release_cases c with e | ⟨f, ⟨-, e⟩ | ⟨old, k⟩⟩
    · rw [e]; exact h
    · rw [e]; exact h.mark f true
    · exact h.becomes k (.inr old) (fun _ => rfl) fun _ => .inr rfl
  case refine_5 =>
    refine ⟨by rw [w.clearCover_circuits]; exact h.1, fun f => ?_⟩
    obtain ⟨b, e⟩ := w.clearCover_record c f
    rw [e]
    exact (h.2 f).same rfl rfl

theorem State.passSteps_tracks (s : State) : s.passSteps.Tracks s :=
  PassWork.Kept.passSteps (PassWork.tracks_kept s) ⟨rfl, fun _ => ⟨rfl, .inl rfl⟩⟩

/-- Settles O48: the bound and the spare filters by what each step keeps of what step 5 and step 3 establish, the states by
the elementary changes of a pass. -/
theorem passesMeetTheWantedCounts : Obligations.PassesMeetTheWantedCounts := by
  unfold Obligations.PassesMeetTheWantedCounts
  intro s t
  obtain ⟨circuits, records⟩ := s.passSteps_tracks
  refine ⟨fun c m => ⟨s.passSteps_bounded m, fun short f => ?_⟩, circuits, fun f => ?_⟩
  · rintro ⟨standby, owed⟩
    exact Nat.not_le.2 short (s.passSteps_fills m f (by simp [FilterRecord.spare, t, standby, owed] at *))
  · obtain ⟨-, stays | ⟨origin, moved⟩⟩ := records f
    · exact ⟨fun _ => stays, fun e => .inl (stays.trans e)⟩
    · refine ⟨fun k => ?_, fun _ => moved⟩
      exfalso
      simp only [FilterRecord.spare, Bool.and_eq_true, beq_iff_eq, Bool.not_eq_true'] at origin
      rcases origin with ⟨e, owed⟩ | e | e <;> simp [e] at k
      simp [k] at owed

end Sys2Proof.Machine
end

section
/-! SUPPORT. A travel that ends in a fault: what the Filter Table makes of the filter (01 R9), and that nothing after it in
the event touches the filter again, since it is then one that nothing moves (`State.Still`). -/

namespace Sys2Proof.Machine

variable {s a : State} {f : FilterId}

/-! ## Entry to FAULT (01 R9) -/

theorem State.updChannel_self {g : Channel → Channel} (h : g (s.channels.get f) = s.channels.get f) :
    s.updChannel f g = s := by
  unfold State.updChannel
  rw [h, Bank.set_get]

theorem State.updChannel_congr {g k : Channel → Channel} (h : g (s.channels.get f) = k (s.channels.get f)) :
    s.updChannel f g = s.updChannel f k := by
  unfold State.updChannel
  rw [h]

theorem State.updChannel_updChannel (s : State) (f : FilterId) (g k : Channel → Channel) :
    (s.updChannel f g).updChannel f k = s.updChannel f fun ch => k (g ch) := by
  have channels : ((s.updChannel f g).updChannel f k).channels = (s.updChannel f fun ch => k (g ch)).channels := by
    refine Bank.ext_get fun q => ?_
    simp only [State.updChannel_channels, Bank.get_set, if_true]
    split <;> rfl
  show ({ s with channels := ((s.updChannel f g).updChannel f k).channels } : State) = _
  rw [channels]
  rfl

theorem Port.hasNotice_post_self (q : Port) (n : Notice) : (q.post n).hasNotice n = true := by
  have lt : n.bit < 24 := by cases n <;> decide
  simp [Port.hasNotice, Port.post, lt]

theorem State.post_notice (s : State) (p : PortId) (n : Notice) : ((s.post p n).ports.get p).hasNotice n = true := by
  rw [State.post, State.updPort_ports, PerPort.get_set_same]
  exact Port.hasNotice_post_self _ n

theorem Reacts.notice {t : State} (h : Reacts s t) {p : PortId} {n : Notice} (k : (s.ports.get p).hasNotice n = true) :
    (t.ports.get p).hasNotice n = true := (h.undisturbed.ports p).notices n k

/-- The state of a fault before its notices: the record, the circuit's cover and the queue. -/
def State.faultRecorded (s : State) (f : FilterId) (kind : FaultKind) : State :=
  let t := s.moveFilter f .fault fun r => r.faulted kind
  let u := if s.faultEndsCover f then t.loseCover (s.filters.get f).circuit else t
  u.setQueue (removeEntry u.queue f)

theorem State.faultFilter_eq {kind : FaultKind} (h : (s.filters.get f).state ≠ .fault) :
    s.faultFilter f kind = (((s.faultRecorded f kind).post .plant .filterFault).postTo (s.filters.get f).circuit
      .filterFault).needPass := by
  unfold State.faultFilter
  dsimp only
  rw [if_neg h]
  rfl

/-- A fault changes the Filter Table and the queue, and what is due. -/
theorem State.faultRecorded_frame (s : State) (f : FilterId) (kind : FaultKind) :
    s.faultRecorded f kind = { s with
      filters := (s.faultRecorded f kind).filters, queue := removeEntry s.queue f,
      due := (s.faultRecorded f kind).due } := by
  unfold State.faultRecorded
  dsimp only
  split
  · rw [State.loseCover_frame]
    rfl
  · rfl

theorem FilterRecord.faulted_enter (r : FilterRecord) (kind : FaultKind) (n : Nat) :
    (r.faulted kind).enter .fault n = r.inFault kind := rfl

/-- The record of a filter that has entered FAULT. -/
theorem State.faultRecorded_record (s : State) (f : FilterId) (kind : FaultKind) :
    (s.faultRecorded f kind).filters.get f = (s.filters.get f).inFault kind := by
  have moved : (s.moveFilter f .fault fun r => r.faulted kind).filters.get f = (s.filters.get f).inFault kind := by
    show (s.filters.set f _).get f = _
    rw [Bank.get_set_same]
    exact FilterRecord.faulted_enter _ _ _
  unfold State.faultRecorded
  dsimp only
  rw [State.setQueue_filters]
  split
  · cases (s.filters.get f).circuit with
    | none => exact moved
    | some c => rw [State.loseCover_record, moved, if_neg (by simp [FilterRecord.inFault])]
  · exact moved

theorem State.postTo_notice (s : State) {c : Option CircuitId} {k : CircuitId} (h : c = some k) (n : Notice) :
    ((s.postTo c n).ports.get (.circuit k)).hasNotice n = true := by
  rw [h]
  exact s.post_notice _ n

theorem State.postTo_frame (s : State) (c : Option CircuitId) (n : Notice) :
    s.postTo c n = { s with ports := (s.postTo c n).ports } := by
  cases c <;> rfl

/-- A filter without a travel that is not on the Line is moved by nothing once it has entered FAULT. -/
theorem State.faultFilter_still {kind : FaultKind} (h : (s.filters.get f).state ≠ .fault) (request : s.requests.get f = none)
    (travel : f ∉ s.travelQueue) (line : ∀ r, s.line.clean = some r → r.filter ≠ f) :
    (s.faultFilter f kind).Still f ∧ (s.faultFilter f kind).filters.get f = (s.filters.get f).inFault kind ∧
      (s.faultFilter f kind).channels = s.channels := by
  rw [State.faultFilter_eq h, State.postTo_frame]
  have record := s.faultRecorded_record f kind
  have frame := s.faultRecorded_frame f kind
  refine ⟨⟨.inl ?_, ?_, ?_, ?_, ?_, ?_⟩, record, ?_⟩
  · exact congrArg FilterRecord.state record
  · exact congrArg FilterRecord.circuit record
  · show ∀ e ∈ (s.faultRecorded f kind).queue, e.filter ≠ f
    rw [frame]
    exact fun e m => (mem_removeEntry m).2
  · show (s.faultRecorded f kind).requests.get f = none
    rw [frame]
    exact request
  · show f ∉ (s.faultRecorded f kind).travelQueue
    rw [frame]
    exact travel
  · show ∀ r, (s.faultRecorded f kind).line.clean = some r → r.filter ≠ f
    rw [frame]
    exact line
  · show (s.faultRecorded f kind).channels = s.channels
    rw [frame]

/-- FILTER_FAULT goes to port P and to the port of the filter's circuit (01 R9). -/
theorem State.faultFilter_notices {kind : FaultKind} (h : (s.filters.get f).state ≠ .fault) :
    ((s.faultFilter f kind).ports.get .plant).hasNotice .filterFault = true ∧
      ∀ k, (s.filters.get f).circuit = some k →
        ((s.faultFilter f kind).ports.get (.circuit k)).hasNotice .filterFault = true := by
  rw [State.faultFilter_eq h]
  exact ⟨((Reacts.refl _).postTo _ _).needPass.notice (State.post_notice _ _ _),
    fun k e => (Reacts.refl _).needPass.notice (State.postTo_notice _ e _)⟩

/-! ## The end of a travel in a fault (05 R96) -/

/-- A travel of the bank that ends with an outcome, before the outcome is delivered. -/
def State.travelCleared (s : State) (f : FilterId) (o : TravelOutcome) : State :=
  let t := (s.updChannel f fun ch => ch.ended o).setRequest f none
  { t with slots := t.slots.release f, travelQueue := t.travelQueue.filter fun g => g != f }

theorem State.finishTravel_eq {r : TravelRequest} (hr : s.requests.get f = some r) (o : TravelOutcome) :
    s.finishTravel f o = (s.travelCleared f o).deliver r.requester f o := by
  unfold State.finishTravel
  dsimp only
  rw [hr]
  rfl

/-- A travel of the bank, not the Line's, whose filter is on its way: HOMING, JOINING, LEAVING or PARKING. -/
def State.Travels (s : State) (f : FilterId) : Prop :=
  (∃ r, s.requests.get f = some r ∧ r.requester ≠ .backwashLine) ∧
    (s.filters.get f).state ∈ [FilterState.homing, .joining, .leaving, .parking] ∧
    ∀ x, s.line.clean = some x → x.filter ≠ f

/-- The filter has failed: nothing moves it, its record and channel are as the fault left them, and FILTER_FAULT is
posted. -/
def State.Failed (t : State) (f : FilterId) (r : FilterRecord) (ch : Channel) : Prop :=
  t.Still f ∧ t.filters.get f = r ∧ t.channels.get f = ch ∧ (t.ports.get .plant).hasNotice .filterFault = true

theorem State.Failed.reacts {t u : State} {r : FilterRecord} {ch : Channel} (h : t.Failed f r ch) (k : Reacts t u) :
    u.Failed f r ch := by
  obtain ⟨still, record, channel, notice⟩ := h
  obtain ⟨still', record', channel'⟩ := k.still f still
  exact ⟨still', record'.trans record, channel'.trans channel, k.notice notice⟩

/-- A travel that ends in a fault leaves its filter in FAULT, its request discarded. -/
theorem State.finishTravel_failed {o : TravelOutcome} {kind : FaultKind} (h : s.Travels f) (ho : o.fault = some kind) :
    (s.finishTravel f o).Failed f ((s.filters.get f).inFault kind) ((s.channels.get f).ended o) ∧
      ∀ k, (s.filters.get f).circuit = some k →
        ((s.finishTravel f o).ports.get (.circuit k)).hasNotice .filterFault = true := by
  obtain ⟨⟨r, hr, notLine⟩, travels, line⟩ := h
  have awake : (s.filters.get f).state ≠ .fault := fun e => by rw [e] at travels; exact absurd travels (by decide)
  rw [State.finishTravel_eq hr]
  have deliver : (s.travelCleared f o).deliver r.requester f o = (s.travelCleared f o).filterOutcome f o := by
    unfold State.deliver
    split
    · next e => exact absurd e notLine
    all_goals rfl
  have reported : Reacts ((s.travelCleared f o).faultFilter f kind) ((s.travelCleared f o).filterOutcome f o) := by
    unfold State.filterOutcome
    rw [ho]
    dsimp only
    split
    · exact (Reacts.refl _).reportHoming f
    · exact .refl _
  obtain ⟨still, record, channels⟩ := State.faultFilter_still (s := s.travelCleared f o) (kind := kind) awake
    (Bank.get_set_same ..) (by simp [State.travelCleared]) line
  obtain ⟨plant, circuit⟩ := State.faultFilter_notices (s := s.travelCleared f o) (kind := kind) awake
  have channel : ((s.travelCleared f o).faultFilter f kind).channels.get f = (s.channels.get f).ended o := by
    rw [channels]
    exact Bank.get_set_same ..
  rw [deliver]
  exact ⟨State.Failed.reacts ⟨still, record, channel, plant⟩ reported, fun k e => reported.notice (circuit k e)⟩

end Sys2Proof.Machine
end

section
/-! PROOFS. O51: the events that end a travel of the bank in a fault. Each comes to `State.endTravel` on a channel that the
event has left as its contacts say. -/

namespace Sys2Proof.Machine

variable {s : State} {f : FilterId}

/-! ## The end of a travel, taken whole -/

/-- What O51 says of the state after an event that ends a travel: `a` is the state with the contact that the event reports,
`ch` the channel as the end leaves it. -/
def State.EndsInFault (a t : State) (f : FilterId) (kind : FaultKind) (ch : Channel) : Prop :=
  a.Undisturbed t ∧ t.filters.get f = (a.filters.get f).inFault kind ∧ t.requests.get f = none ∧ f ∉ t.travelQueue ∧
    (∀ e ∈ t.queue, e.filter ≠ f) ∧ t.channels.get f = ch ∧ (t.ports.get .plant).hasNotice .filterFault = true ∧
    ∀ k, (a.filters.get f).circuit = some k → (t.ports.get (.circuit k)).hasNotice .filterFault = true

theorem State.Travels.updChannel (h : s.Travels f) (g : Channel → Channel) : (s.updChannel f g).Travels f := h

/-- A channel changed but for its contacts and pulses leaves the state undisturbed. -/
theorem State.Undisturbed.updChannel {g : Channel → Channel} (h : (s.channels.get f).Kept (g (s.channels.get f))) :
    s.Undisturbed (s.updChannel f g) :=
  { State.Undisturbed.refl s with
    channels := fun q => by
      rw [State.updChannel_channels, Bank.get_set]
      split
      · next e => rw [e]; exact h
      · exact .refl _ }

/-- The end of a travel in a fault, with the hand-out and the rest of the event. -/
theorem State.endTravel_endsInFault (h : s.Travels f) {g : Channel → Channel}
    (hg : (s.channels.get f).Kept (g (s.channels.get f))) {o : TravelOutcome} {kind : FaultKind} (ho : o.fault = some kind) :
    s.EndsInFault ((s.updChannel f g).endTravel f o).finishEvent f kind ((g (s.channels.get f)).ended o) := by
  have awake : ¬ (s.updChannel f g).Still f := by
    obtain ⟨⟨r, hr, -⟩, -⟩ := h
    exact fun x => nomatch x.request.symm.trans hr
  have after : Reacts ((s.updChannel f g).finishTravel f o) ((s.updChannel f g).endTravel f o).finishEvent :=
    (Reacts.refl _).handOut.finishEvent
  have whole : Reacts (s.updChannel f g) ((s.updChannel f g).endTravel f o).finishEvent :=
    ((Reacts.refl _).endTravel o awake).finishEvent
  obtain ⟨failed, circuit⟩ := State.finishTravel_failed (h.updChannel g) ho
  obtain ⟨still, record, channel, plant⟩ := failed.reacts after
  refine ⟨(State.Undisturbed.updChannel hg).trans whole.undisturbed, record, still.request, still.travel, still.queue, ?_,
    plant, fun k e => after.notice (circuit k e)⟩
  rw [channel, State.updChannel_channels, Bank.get_set_same]

/-- The channel at the end of a travel in a fault. -/
theorem State.endTravel_channel {o : TravelOutcome} {kind : FaultKind} (h : s.Travels f) (ho : o.fault = some kind) :
    (s.endTravel f o).channels.get f = (s.channels.get f).ended o := by
  obtain ⟨⟨still, -, channel, -⟩, -⟩ := State.finishTravel_failed h ho
  exact ((Reacts.refl _).handOut.still f still).2.2.trans channel

/-! ## Events that end a travel -/

theorem State.torqueChange_trips {d : Dir} (hm : (s.channels.get f).state = .moving) (hd : (s.channels.get f).dir = some d)
    (ht : (s.channels.get f).torque d = false) :
    s.torqueChange f d true = (s.updChannel f fun ch => ch.setTorque d true).endTravel f .jammed := by
  unfold State.torqueChange
  simp [hm, hd, ht, Channel.turning]

theorem State.dwellExpiry_jams {r : TravelRequest} (hr : s.requests.get f = some r)
    (hs : (s.channels.get f).state = .dwell) (hp : s.pauseCondition = false) (hh : (s.channels.get f).homing = none)
    (count : (s.channels.get f).position.isSome = true) (cw : (s.channels.get f).cwTorque = true)
    (ccw : (s.channels.get f).ccwTorque = true) : s.dwellExpiry f = s.endTravel f .jammed := by
  obtain ⟨p, hpos⟩ := Option.isSome_iff_exists.1 count
  have both : ∀ d, (s.channels.get f).torque d = true := fun d => by cases d <;> assumption
  have jams : (s.channels.get f).afterDwell r.target s.pauseCondition = (s.channels.get f, some .jammed) := by
    simp [Channel.afterDwell, hp, hh, hpos, Channel.chooseDir, both]
  unfold State.dwellExpiry
  simp only [hr, hs, if_true, jams]
  unfold State.afterStart
  simp only
  rw [State.updChannel_self rfl]
  rfl

theorem State.settleTimeout_lost (hs : (s.channels.get f).state = .settling)
    (ht : (s.channels.get f).settleTimer.isSome = true) : s.settleTimeout f = s.endTravel f .positionLost := by
  unfold State.settleTimeout
  simp [hs, ht]

theorem State.detentOpen_lost (hs : (s.channels.get f).seated = true)
    (hm : (s.channels.get f).state ∈ [ChannelState.waiting, .dwell, .moving, .paused]) :
    s.detentOpen f = (s.updChannel f fun ch => { ch with detent := false }).endTravel f .positionLost := by
  unfold State.detentOpen
  simp only [List.mem_cons, List.not_mem_nil, or_false] at hm
  rcases hm with e | e | e | e <;> simp [hs, e]

/-- The drift of a confirmed edge, from the remainder of 1,600 that the statements give. -/
theorem drift_eq (d : Dir) {recorded : Nat} (h : recorded < 1600) :
    drift d recorded = if 800 < (edgePlace d + 1600 - recorded) % 1600 then
      (((edgePlace d + 1600 - recorded) % 1600 : Nat) : Int) - 1600
      else (((edgePlace d + 1600 - recorded) % 1600 : Nat) : Int) := by
  have place : edgePlace d < 1600 := by cases d <;> decide
  have rest : ((edgePlace d : Int) - recorded) % 1600 = ((edgePlace d + 1600 - recorded) % 1600 : Nat) := by omega
  simp only [drift, rest]
  split_ifs <;> omega

/-- The level of the home flag that an edge confirms. -/
theorem State.homeFlagGoes_same {rising : Bool}
    (h : ∀ e, (s.channels.get f).edge = some e → e.rising = rising) : s.homeFlagGoes f rising = s := by
  unfold State.homeFlagGoes
  rw [if_neg]
  cases he : (s.channels.get f).edge with
  | none => simp
  | some e => simp [h e he]

theorem State.homeFlagGoes_back {rising : Bool} {e : EdgeRecord} (he : (s.channels.get f).edge = some e)
    (h : e.rising = !rising) : s.homeFlagGoes f rising = s.homeEdgeFails f := by
  unfold State.homeFlagGoes
  rw [if_pos]
  cases rising <;> simp [he, h]

/-- A confirmed rise that stands against no other record. -/
theorem State.homeEdgeConfirmed_rise {e : EdgeRecord} (he : (s.channels.get f).edge = some e) (hr : e.rising = true) :
    s.homeEdgeConfirmed f true =
      (s.updChannel f fun ch => { ch with home := true, edge := none }).takeRise f e := by
  have same : (s.updChannel f fun ch => { ch with home := true }).homeFlagGoes f true =
      s.updChannel f fun ch => { ch with home := true } := State.homeFlagGoes_same fun x k => by
    rw [State.updChannel_channels, Bank.get_set_same] at k
    cases he.symm.trans k
    exact hr
  unfold State.homeEdgeConfirmed
  simp only [same, if_true, State.updChannel_channels, Bank.get_set_same, he, State.updChannel_updChannel]

theorem State.takeRise_resync {r : TravelRequest} {e : EdgeRecord} (hr : s.requests.get f = some r)
    (ht : (s.channels.get f).state.takesEdge = true) (hh : (s.channels.get f).homing = none) :
    s.takeRise f e = s.resync f r.target e := by
  unfold State.takeRise
  simp [hr, ht, hh]

theorem State.resync_lost {target : Stop} {e : EdgeRecord} {recorded p : Nat} (he : e.position = some recorded)
    (hp : (s.channels.get f).position = some p) (h : ¬ (drift e.dir recorded).natAbs ≤ 8) :
    s.resync f target e = s.endTravel f .positionLost := by
  unfold State.resync
  simp [he, hp, h]

/-- A confirmed rise whose drift is more than eight steps. -/
theorem State.homeEdgeConfirmed_lost {r : TravelRequest} {e : EdgeRecord} {recorded p : Nat}
    (hr : s.requests.get f = some r) (he : (s.channels.get f).edge = some e) (rise : e.rising = true)
    (hp : e.position = some recorded) (hpos : (s.channels.get f).position = some p)
    (hh : (s.channels.get f).homing = none) (takes : (s.channels.get f).state.takesEdge = true)
    (large : ¬ (drift e.dir recorded).natAbs ≤ 8) :
    s.homeEdgeConfirmed f true =
      (s.updChannel f fun ch => { ch with home := true, edge := none }).endTravel f .positionLost := by
  have channel : (s.updChannel f fun ch => { ch with home := true, edge := none }).channels.get f =
      { s.channels.get f with home := true, edge := none } := Bank.get_set_same ..
  rw [State.homeEdgeConfirmed_rise he rise]
  generalize ht : (s.updChannel f fun ch => { ch with home := true, edge := none }) = t at channel ⊢
  have request : t.requests.get f = some r := by rw [← ht]; exact hr
  rw [State.takeRise_resync request (by rw [channel]; exact takes) (by rw [channel]; exact hh)]
  exact State.resync_lost hp (by rw [channel]; exact hpos) large

/-- A failed hold of an edge that a search at its limit has in its hold. -/
theorem State.homeEdgeFails_ends (hh : (s.channels.get f).edgeHeld = true) (hl : 1700 ≤ (s.channels.get f).search) :
    s.homeEdgeFails f = (s.updChannel f fun ch => { ch with edge := none }).endTravel f .homeNotFound := by
  unfold State.homeEdgeFails
  simp [hh, Config.searchLimit, hl]

theorem Channel.edgeHeld_of {ch : Channel} {e : EdgeRecord} (he : ch.edge = some e)
    (h : (ch.homing = some .clear ∧ e.rising = false) ∨ (ch.homing = some .search ∧ e.rising = true)) :
    ch.edgeHeld = true := by
  rcases h with ⟨hh, hr⟩ | ⟨hh, hr⟩ <;> simp [Channel.edgeHeld, he, hh, hr]

/-- A channel whose travel has ended opens no record. -/
theorem Channel.rawEdge_ended (ch : Channel) {o : TravelOutcome} (h : o ≠ .arrived) (rising : Bool) :
    (ch.ended o).rawEdge rising = ch.ended o := by
  unfold Channel.rawEdge
  rw [if_neg]
  cases rising <;> simp [Channel.opensEdge, Channel.ended, h]

theorem State.takeFall_of_not (h : (s.channels.get f).state.takesEdge = false) : s.takeFall f = s := by
  unfold State.takeFall
  simp [h]

/-- The interval that brings a search to its limit, no edge in its hold. -/
theorem State.profileInterval_ends {r : TravelRequest} (hr : s.requests.get f = some r)
    (hm : (s.channels.get f).state = .moving)
    (hh : (s.channels.get f).homing = some .clear ∨ (s.channels.get f).homing = some .search)
    (he : (s.channels.get f).edge = none) (hs : s.surge = false) (low : (s.channels.get f).search ≤ 1700)
    (full : 1700 ≤ (s.channels.get f).search + ((s.channels.get f).profile.startSpeed + (s.channels.get f).residue) / 100) :
    s.profileInterval f =
      (s.updChannel f fun ch => ch.homingStep (1700 - ch.search)).endTravel f .homeNotFound := by
  have free : (s.channels.get f).edgeHeld = false := by simp [Channel.edgeHeld, he]
  have steps : (s.channels.get f).searchSteps = 1700 - (s.channels.get f).search := by
    simp only [Channel.searchSteps, free, Channel.dueSteps, Config.searchLimit, Bool.false_eq_true, if_false]
    omega
  have searching : s.profileInterval f = s.searchInterval f := by
    unfold State.profileInterval
    simp only [hr, hm, if_true]
    rcases hh with e | e <;> simp [e, State.homingInterval, State.surgePauses, hs]
  have update : (s.updChannel f fun ch => ch.homingStep ch.searchSteps) =
      s.updChannel f fun ch => ch.homingStep (1700 - ch.search) := by
    unfold State.updChannel
    simp only [steps]
  rw [searching]
  unfold State.searchInterval
  simp only [update, State.updChannel_channels, Bank.get_set_same]
  rw [if_pos]
  simp [Channel.homingStep, Channel.edgeHeld, Channel.emit, he, Config.searchLimit]
  omega

/-! ## The obligation -/

/-- A channel at the end of a travel in a fault, in the words of O51. -/
def Channel.failed (ch : Channel) (count : Option Nat) : Channel :=
  { ch with
    state := .faulted, position := count, speed := 0, residue := 0, overrun := false, seated := false,
    settleTimer := none, settleStop := none, edge := none, homing := none }

theorem Channel.ended_jammed (ch : Channel) : ch.ended .jammed = ch.failed ch.position := by
  simp [Channel.ended, Channel.failed]

theorem Channel.ended_positionLost (ch : Channel) : ch.ended .positionLost = ch.failed none := by
  simp [Channel.ended, Channel.failed]

theorem Channel.ended_homeNotFound (ch : Channel) : ch.ended .homeNotFound = ch.failed none := by
  simp [Channel.ended, Channel.failed]

/-- An event that ends a travel in a fault: `contact` is the contact that it reports, `g` what else it does to the channel
before the end. -/
theorem State.Travels.ends {c : Instr} {X : State} (h : s.Travels f) (hx : exec c s = .next X.finishEvent)
    (contact g : Channel → Channel) {o : TravelOutcome} {kind : FaultKind} (ho : o.fault = some kind)
    (hX : X = (s.updChannel f fun x => g (contact x)).endTravel f o)
    (hg : (contact (s.channels.get f)).Kept (g (contact (s.channels.get f)))) {ch : Channel}
    (hc : (g (contact (s.channels.get f))).ended o = ch) :
    ∃ t, exec c s = .next t ∧ (s.updChannel f contact).EndsInFault t f kind ch := by
  have same : (s.updChannel f contact).channels.get f = contact (s.channels.get f) := Bank.get_set_same ..
  have k := State.endTravel_endsInFault (h.updChannel contact) (g := g) (by rw [same]; exact hg) ho
  rw [State.updChannel_updChannel, same, hc, ← hX] at k
  exact ⟨_, hx, k⟩

/-- The same where the contact is all that the event does to the channel before the end. -/
theorem State.Travels.endsAtOnce {c : Instr} {X : State} (h : s.Travels f) (hx : exec c s = .next X.finishEvent)
    (contact : Channel → Channel) {o : TravelOutcome} {kind : FaultKind} (ho : o.fault = some kind)
    (hX : X = (s.updChannel f contact).endTravel f o) {ch : Channel} (hc : (contact (s.channels.get f)).ended o = ch) :
    ∃ t, exec c s = .next t ∧ (s.updChannel f contact).EndsInFault t f kind ch :=
  h.ends hx contact (fun ch => ch) ho hX (.refl _) hc

/-- A record that is discarded once the travel has ended is gone already. -/
theorem State.endTravel_updChannel {o : TravelOutcome} {kind : FaultKind} (h : s.Travels f) (ho : o.fault = some kind)
    {g : Channel → Channel} (hg : g ((s.channels.get f).ended o) = (s.channels.get f).ended o) :
    (s.endTravel f o).updChannel f g = s.endTravel f o :=
  State.updChannel_self (by rw [State.endTravel_channel h ho]; exact hg)

section

variable {e : EdgeRecord} (h : s.Travels f) (he : (s.channels.get f).edge = some e)
  (held : (s.channels.get f).edgeHeld = true) (full : 1700 ≤ (s.channels.get f).search)

include h he held full

theorem State.homeEdgeRaw_ends : s.homeEdgeRaw f (!e.rising) =
    (s.updChannel f fun ch => { ch with edge := none }).endTravel f .homeNotFound := by
  unfold State.homeEdgeRaw
  rw [State.homeFlagGoes_back he (by simp), State.homeEdgeFails_ends held full]
  exact State.endTravel_updChannel (h.updChannel _) rfl (Channel.rawEdge_ended _ (by decide) _)

theorem State.homeEdgeConfirmed_ends : s.homeEdgeConfirmed f (!e.rising) =
    (s.updChannel f fun ch => { ch with home := !e.rising, edge := none }).endTravel f .homeNotFound := by
  have channel : (s.updChannel f fun ch => { ch with home := !e.rising }).channels.get f =
      { s.channels.get f with home := !e.rising } := Bank.get_set_same ..
  have fails : (s.updChannel f fun ch => { ch with home := !e.rising }).homeFlagGoes f (!e.rising) =
      (s.updChannel f fun ch => { ch with home := !e.rising, edge := none }).endTravel f .homeNotFound := by
    rw [State.homeFlagGoes_back (e := e) (by rw [channel]; exact he) (by simp),
      State.homeEdgeFails_ends (by rw [channel]; exact held) (by rw [channel]; exact full), State.updChannel_updChannel]
  have travels : (s.updChannel f fun ch => { ch with home := !e.rising, edge := none }).Travels f := h.updChannel _
  have gone := State.endTravel_updChannel (o := .homeNotFound) travels rfl (g := fun ch => { ch with edge := none }) rfl
  have channel' := State.endTravel_channel (o := .homeNotFound) travels rfl
  unfold State.homeEdgeConfirmed
  simp only [fails, gone]
  split
  · rw [channel']
    rfl
  · exact State.takeFall_of_not (by rw [channel']; rfl)

end

/-- Settles O51: each event comes to the end of a travel, after which nothing moves the filter. -/
theorem failedTravelsFaultTheFilter : Obligations.FailedTravelsFaultTheFilter := by
  unfold Obligations.FailedTravelsFaultTheFilter
  intro s f r hr notLine state line ch fails
  have travels : s.Travels f := ⟨⟨r, hr, notLine⟩, state, line⟩
  have endsSelf : ∀ {c : Instr} {X : State} {o : TravelOutcome} {kind : FaultKind} {count : Option Nat},
      exec c s = .next X.finishEvent → o.fault = some kind → X = s.endTravel f o → ch.ended o = ch.failed count →
      fails c id kind count := fun hx ho hX hc =>
    travels.endsAtOnce hx id ho (by rw [hX, State.updChannel_self (g := id) rfl]) hc
  refine ⟨fun hm hd ht => ?_, fun hm hd ht => ?_, fun hs hp hh count cw ccw => ?_, fun hs ht => ?_, fun hs hm => ?_,
    fun e recorded he rise hp low count hh moves => ?_, fun e he full held => ⟨?_, ?_, ?_⟩,
    fun hm hh he quiet low full => ?_⟩
  case refine_1 =>
    exact travels.endsAtOnce (o := .jammed) rfl (fun x => x.setTorque .cw true) rfl (State.torqueChange_trips hm hd ht)
      (Channel.ended_jammed _)
  case refine_2 =>
    exact travels.endsAtOnce (o := .jammed) rfl (fun x => x.setTorque .ccw true) rfl (State.torqueChange_trips hm hd ht)
      (Channel.ended_jammed _)
  case refine_3 =>
    exact endsSelf (o := .jammed) rfl rfl (State.dwellExpiry_jams hr hs hp hh count cw ccw) (Channel.ended_jammed _)
  case refine_4 => exact endsSelf (o := .positionLost) rfl rfl (State.settleTimeout_lost hs ht) (Channel.ended_positionLost _)
  case refine_5 =>
    exact travels.endsAtOnce (o := .positionLost) rfl (fun x => { x with detent := false }) rfl (State.detentOpen_lost hs hm)
      (Channel.ended_positionLost _)
  case refine_6 =>
    intro place near far
    obtain ⟨p, hpos⟩ := Option.isSome_iff_exists.1 count
    have takes : ch.state.takesEdge = true := by
      simp only [List.mem_cons, List.not_mem_nil, or_false] at moves
      rcases moves with k | k | k | k <;> rw [k] <;> rfl
    have large : ¬ (drift e.dir recorded).natAbs ≤ 8 := by
      have same : edgePlace e.dir = place := by cases k : e.dir <;> simp [place, k, edgePlace]
      rw [drift_eq e.dir low, same]
      split <;> omega
    have lost := State.homeEdgeConfirmed_lost hr he rise hp hpos hh takes large
    exact travels.ends (o := .positionLost) rfl (fun x => { x with home := true }) (fun x => { x with edge := none }) rfl lost (.of _)
      (Channel.ended_positionLost _)
  case refine_7 =>
    exact travels.ends (o := .homeNotFound) rfl id (fun x => { x with edge := none }) rfl
      (State.homeEdgeFails_ends (Channel.edgeHeld_of he held) full) (.of _) (Channel.ended_homeNotFound _)
  case refine_8 =>
    exact travels.ends (o := .homeNotFound) rfl id (fun x => { x with edge := none }) rfl
      (State.homeEdgeRaw_ends travels he (Channel.edgeHeld_of he held) full) (.of _) (Channel.ended_homeNotFound _)
  case refine_9 =>
    exact travels.ends (o := .homeNotFound) rfl (fun x => { x with home := !e.rising }) (fun x => { x with edge := none }) rfl
      (State.homeEdgeConfirmed_ends travels he (Channel.edgeHeld_of he held) full) (.of _) (Channel.ended_homeNotFound _)
  case refine_10 =>
    intro n
    refine travels.ends (o := .homeNotFound) rfl
      (fun x => { x with search := 1700, creep := x.creep - n, pulses := x.pulses + n })
      (fun x => { x with
        speed := x.profile.startSpeed, residue := x.dueResidue x.profile.startSpeed,
        position := x.position.map fun p => advance .cw p n, seated := x.seated && n = 0, edge := none }) rfl ?_ (.of _)
      (Channel.ended_homeNotFound _)
    rw [State.profileInterval_ends hr hm hh he quiet low full]
    have noEdge : (s.channels.get f).edge = none := he
    have limit : min ((s.channels.get f).search + (1700 - (s.channels.get f).search)) 1700 = 1700 := by
      have : (s.channels.get f).search ≤ 1700 := low
      omega
    refine congrArg (fun t : State => t.endTravel f .homeNotFound) (State.updChannel_congr ?_)
    simp only [Channel.homingStep, Channel.emit, Config.searchLimit, noEdge, limit, Option.map_none]
    rfl

end Sys2Proof.Machine
end

section
/-! SUPPORT. The end of an event that has little to do: where plant stop is active or the plant is not RUNNING there is no
pass and no grant, and where the queue is evaluated and no grant can be made nothing changes at all. -/

namespace Sys2Proof.Machine

variable {s t u : State}

/-! ## No pass and no grant (01 R14, 03 R60) -/

/-- The plant takes no pass and makes no grant. -/
def State.Dormant (s : State) : Prop := s.stopActive = true ∨ s.plant ≠ .running

/-- A state after an evaluation of its queue and of its path states: the queue, the notices, the channels' interlocks and
what is due may have changed, but no entry's place or reasons. -/
def Settles (s t : State) : Prop :=
  t = { s with queue := t.queue, ports := t.ports, doses := t.doses, pathOpen := t.pathOpen, due := t.due } ∧
    t.queue.map QueueEntry.filter = s.queue.map QueueEntry.filter ∧
    ((s.queue.map QueueEntry.filter).Nodup → t.entries = s.entries)

theorem Settles.refl (s : State) : Settles s s := ⟨rfl, rfl, fun _ => rfl⟩

theorem Settles.trans (h : Settles s t) (k : Settles t u) : Settles s u := by
  obtain ⟨frame, order, entries⟩ := h
  obtain ⟨frame', order', entries'⟩ := k
  refine ⟨?_, order'.trans order, fun n => (entries' (by rw [order]; exact n)).trans (entries n)⟩
  exact frame'.trans (congrArg (fun x : State =>
    { x with queue := u.queue, ports := u.ports, doses := u.doses, pathOpen := u.pathOpen, due := u.due }) frame)

theorem Settles.filters (h : Settles s t) : t.filters = s.filters := (congrArg State.filters h.1 :)
theorem Settles.line (h : Settles s t) : t.line = s.line := (congrArg State.line h.1 :)
theorem Settles.channels (h : Settles s t) : t.channels = s.channels := (congrArg State.channels h.1 :)
theorem Settles.requests (h : Settles s t) : t.requests = s.requests := (congrArg State.requests h.1 :)
theorem Settles.travelQueue (h : Settles s t) : t.travelQueue = s.travelQueue := (congrArg State.travelQueue h.1 :)
theorem Settles.plant (h : Settles s t) : t.plant = s.plant := (congrArg State.plant h.1 :)
theorem Settles.stopActive (h : Settles s t) : t.stopActive = s.stopActive := (congrArg State.stopActive h.1 :)

theorem Settles.entries (h : Settles s t) (distinct : (s.queue.map QueueEntry.filter).Nodup) : t.entries = s.entries :=
  h.2.2 distinct

theorem Settles.withDue (h : Settles s t) (d : Due) : Settles s { t with due := d } :=
  h.trans ⟨rfl, rfl, fun _ => rfl⟩

theorem Settles.withPorts (h : Settles s t) (ps : PerPort Port) : Settles s { t with ports := ps } :=
  h.trans ⟨rfl, rfl, fun _ => rfl⟩

theorem Settles.foldl {α : Type} {g : State → α → State} (hg : ∀ (t : State) (x : α), Settles t (g t x)) (l : List α)
    (s : State) : Settles s (l.foldl g s) := by
  induction l generalizing s with
  | nil => exact .refl s
  | cons x l ih => exact (hg s x).trans (ih _)

theorem Settles.takeEligibility (s : State) (f : FilterId) (v : Eligibility) : Settles s (s.takeEligibility f v) := by
  cases v with
  | floorBlocked => exact (Settles.refl s).withDue _
  | needsStop =>
    unfold State.takeEligibility
    dsimp only
    rw [State.postTo_frame]
    exact (Settles.refl s).withPorts _
  | eligible => exact .refl s
  | inTransit => exact .refl s

/-- An entry replaced by one for the same filter with the same reasons, where the filter has one entry. -/
theorem replaceEntry_entries {q : List QueueEntry} {e x : QueueEntry} (distinct : (q.map QueueEntry.filter).Nodup)
    (he : e ∈ q) (hf : x.filter = e.filter) (hr : x.reasons = e.reasons) :
    (replaceEntry q x).map (fun y => (y.filter, y.reasons)) = q.map fun y => (y.filter, y.reasons) := by
  unfold replaceEntry
  rw [List.map_map]
  refine List.map_congr_left fun y hy => ?_
  rw [Function.comp_apply]
  split
  · next same =>
    have : y = e := List.inj_on_of_nodup_map distinct hy he ((beq_iff_eq.1 same).trans hf)
    rw [this, hf, hr]
  · rfl

theorem Settles.evaluateEntry (s : State) (f : FilterId) : Settles s (s.evaluateEntry f) := by
  unfold State.evaluateEntry
  split
  · exact .refl s
  · next e he =>
    dsimp only
    split
    · exact .refl s
    · refine Settles.withDue (Settles.trans ?_ (Settles.takeEligibility _ f _)) _
      exact ⟨rfl, map_replaceEntry _ _, fun distinct => replaceEntry_entries distinct (State.entryOf_some he).1 rfl rfl⟩

theorem Settles.evaluateQueue (s : State) : Settles s s.evaluateQueue :=
  Settles.foldl Settles.evaluateEntry _ s

theorem Settles.evalPath (s : State) (c : CircuitId) : Settles s (s.evalPath c) := by
  unfold State.evalPath
  dsimp only
  split
  · exact .refl s
  · obtain ⟨ds, ps, e⟩ := State.formReasons_frame (({ s with pathOpen := s.pathOpen.set c (s.hasPath c) } : State).post
      (.circuit c) (if s.hasPath c then .pathRestored else .pathLost)) c fun r => { r with noPath := !s.hasPath c }
    rw [e]
    exact ⟨rfl, rfl, fun _ => rfl⟩

theorem Settles.evalPaths (s : State) : Settles s s.evalPaths :=
  Settles.foldl Settles.evalPath _ s

theorem State.takePass_dormant (h : s.Dormant) : s.takePass = s := by
  unfold State.takePass
  rw [if_neg]
  rcases h with h | h <;> simp [h]

theorem State.tryGrant_dormant (h : s.Dormant) : s.tryGrant = s := by
  unfold State.tryGrant
  rw [if_neg]
  unfold State.grantAllowed
  rcases h with h | h <;> simp [h]

theorem State.Dormant.settles (h : s.Dormant) (k : Settles s t) : t.Dormant := by
  unfold State.Dormant
  rw [k.stopActive, k.plant]
  exact h

theorem Settles.settle (b : Bool) (n : Nat) (h : s.Dormant) : Settles s (State.settle b n s) := by
  induction n generalizing s with
  | zero => exact .refl s
  | succ n ih =>
    have step {t : State} (k : Settles s t) : Settles s (State.settle b n t) := k.trans (ih (h.settles k))
    unfold State.settle
    split
    · refine step ?_
      split
      · rw [State.takePass_dormant (s := { s with due := { s.due with pass := false } }) h]
        exact (Settles.refl s).withDue _
      · exact (Settles.refl s).withDue _
    · split
      · exact step (((Settles.refl s).withDue _).trans (Settles.evaluateQueue _))
      · split
        · refine step ?_
          rw [State.tryGrant_dormant (s := { s with due := { s.due with grant := false } }) h]
          exact (Settles.refl s).withDue _
        · exact .refl s

/-- The end of an event without pass or grant evaluates the queue and the path states, and does nothing else. -/
theorem State.Dormant.finishEvent (h : s.Dormant) : Settles s s.finishEvent := by
  have first := Settles.settle true Config.settleRounds h
  have second := first.trans (Settles.settle false Config.settleRounds (h.settles first))
  exact (second.trans (Settles.evalPaths _)).withDue _

/-! ## Nothing to do -/

/-- An evaluated queue is left as it is (03 R53). -/
theorem State.Evaluated.evaluateQueue (h : s.Evaluated) : s.evaluateQueue = s := by
  have entry (f : FilterId) : s.evaluateEntry f = s := by
    unfold State.evaluateEntry
    split
    · rfl
    · next e he =>
      obtain ⟨mem, same⟩ := State.entryOf_some he
      dsimp only
      rw [if_pos (by rw [h e mem, same])]
  unfold State.evaluateQueue
  exact List.foldl_fixed' entry _

theorem State.tryGrant_none (h : s.grantAllowed = false) : s.tryGrant = s := by
  unfold State.tryGrant
  rw [if_neg (by simp [h])]

/-- The queue is evaluated, no grant can be made, and a pass that is due is not taken. -/
def State.Spent (s : State) : Prop :=
  s.Evaluated ∧ s.grantAllowed = false ∧ (s.due.pass = true → s.Dormant)

theorem State.Spent.settle (h : s.Spent) (b : Bool) (n : Nat) :
    ∃ d, State.settle b n s = { s with due := d } ∧ ({ s with due := d } : State).Spent := by
  induction n generalizing s with
  | zero => exact ⟨s.due, rfl, h⟩
  | succ n ih =>
    obtain ⟨evaluated, noGrant, pass⟩ := h
    have step {d : Due} (k : d.pass = true → s.Dormant) :
        ∃ d', State.settle b n { s with due := d } = { s with due := d' } ∧ ({ s with due := d' } : State).Spent :=
      ih ⟨evaluated, noGrant, k⟩
    unfold State.settle
    split
    · next due =>
      dsimp only
      rw [State.takePass_dormant (s := { s with due := { s.due with pass := false } }) (pass due), ite_self]
      exact step (by simp)
    · split
      · rw [State.Evaluated.evaluateQueue (s := { s with due := { s.due with eval := false } }) evaluated]
        exact step pass
      · split
        · rw [State.tryGrant_none (s := { s with due := { s.due with grant := false } }) noGrant]
          exact step pass
        · exact ⟨s.due, rfl, evaluated, noGrant, pass⟩

/-- Where nothing is left to do and the path states stand, the end of an event only clears what is due. -/
theorem State.Spent.finishEvent (h : s.Spent) (paths : ∀ c, s.pathOpen.get c = s.hasPath c) :
    s.finishEvent = { s with due := Due.none } := by
  obtain ⟨d, first, h'⟩ := h.settle true Config.settleRounds
  obtain ⟨e, second, -⟩ := h'.settle false Config.settleRounds
  unfold State.finishEvent
  dsimp only
  rw [first, second]
  have still : ∀ (t : State), (∀ c, t.pathOpen.get c = t.hasPath c) → t.evalPaths = t := fun t ht =>
    List.foldl_fixed' (fun c => by unfold State.evalPath; dsimp only; rw [if_pos (ht c)]) _
  rw [still { s with due := e } paths]

end Sys2Proof.Machine
end

section
/-! SUPPORT. Requests that port P makes for a filter, and travels that must wait; O33 and O34. -/

namespace Sys2Proof.Machine

variable {s t u : State} {f : FilterId}

/-! ## Travels that must wait (05 R93, R95) -/

theorem State.NoHandOut.handOut (h : s.NoHandOut) : s.handOut = s := by
  unfold State.handOut
  cases n : s.travelQueue.length with
  | zero => rfl
  | succ n =>
    unfold State.handOutUpTo
    split
    · rfl
    · next g rest queue =>
      rcases h with h | h | h
      · simp [h]
      · rw [queue] at h; cases h
      · simp [h]

theorem State.fileWaiting_held (target : Stop) (q : Requester) (h : s.slots.hasFree = false ∨ s.pauseCondition = true) :
    s.fileWaiting f target q = s.queuedTravel f target q := by
  unfold State.fileWaiting
  refine State.NoHandOut.handOut ?_
  rcases h with h | h
  · exact .inl h
  · exact .inr (.inr h)

theorem State.MustWait.fileTravel {target : Stop} (h : s.MustWait f target) (q : Requester) :
    s.fileTravel f target q = s.queuedTravel f target q := by
  obtain ⟨p, position, elsewhere⟩ := h.elsewhere
  unfold State.fileTravel
  rw [h.request]
  dsimp only
  rw [position]
  dsimp only
  rw [if_neg (by simp [elsewhere])]
  exact State.fileWaiting_held target q h.held

/-- A homing travel waits whatever the position (05 R93). -/
theorem State.fileTravel_homing (request : s.requests.get f = none)
    (held : s.slots.hasFree = false ∨ s.pauseCondition = true) :
    s.fileTravel f .closed .homing = s.queuedTravel f .closed .homing := by
  unfold State.fileTravel
  rw [request]
  dsimp only
  have waits := State.fileWaiting_held (s := s) (f := f) .closed .homing held
  split
  · rw [if_pos rfl, waits]
  · rw [if_neg (by simp), waits]

/-! ## Requests of port P for a filter -/

theorem State.heard_plant (s : State) : s.heard .plant = s := rfl

theorem State.Undisturbed.respond (h : s.Undisturbed t) (p : PortId) (status kind : Byte) (n : Nat) (st : Status)
    (ps : List Byte) : (s.respond p status kind n st ps).Undisturbed (t.respond p status kind n st ps) :=
  { h with
    ports := fun q => by
      unfold State.respond
      rw [State.updPort_ports, State.updPort_ports, PerPort.get_set, PerPort.get_set]
      have kept := h.ports q
      split
      · next e => subst e; exact ⟨by rw [kept.responses], kept.mask, rfl, kept.linkError, kept.notices⟩
      · exact kept }

/-- A request of port P with one parameter: its answer, and what the event makes of it. -/
theorem exec_plant_request {k : Kind} {code : Byte} (room : s.Room .plant) {a : Answer}
    (answer : s.answer .plant k.code [code] = a) :
    ∃ t, exec (k.command .plant [code]) s = .next t ∧
      (a.state.respond .plant (s.statusByte .plant) k.code 1 a.status a.params).Undisturbed t ∧
      (a.state.Dormant → Settles a.state t) := by
  refine ⟨_, by rw [exec_command, receiveFrame_request k.code_ne_zero (Nat.le_add_left ..)], ?_⟩
  unfold State.takeRequest
  dsimp only
  rw [State.heard_plant, if_neg (Nat.not_le.2 room), answer]
  refine ⟨?_, fun dormant => ?_⟩
  · rw [← State.respond_eq]
    exact ((Reacts.refl _).finishEvent.undisturbed).record _ _
  · exact (((Settles.refl a.state).withPorts _).trans (State.Dormant.finishEvent (s := a.state.updPort _ _) dormant)).withPorts _

/-- A request of port P after which nothing is left to do. -/
theorem exec_plant_request_spent {k : Kind} {code : Byte} (room : s.Room .plant) {a : Answer}
    (answer : s.answer .plant k.code [code] = a) (spent : a.state.Spent)
    (paths : ∀ c, a.state.pathOpen.get c = a.state.hasPath c) :
    exec (k.command .plant [code]) s = .next (State.respond { a.state with due := Due.none } .plant (s.statusByte .plant)
      k.code 1 a.status a.params) := by
  rw [exec_command, receiveFrame_request k.code_ne_zero (Nat.le_add_left ..)]
  unfold State.takeRequest
  dsimp only
  rw [State.heard_plant, if_neg (Nat.not_le.2 room), answer,
    State.Spent.finishEvent (s := a.state.updPort _ _) spent paths]
  rw [← State.respond_eq]
  rfl

/-- A request of port P that is refused. -/
theorem exec_plant_refused {k : Kind} {code : Byte} {st : Status} (room : s.Room .plant) (quiet : s.Quiet)
    (answer : s.answer .plant k.code [code] = s.refuse st) :
    exec (k.command .plant [code]) s = .next (s.respond .plant (s.statusByte .plant) k.code 1 st []) := by
  rw [exec_request_quiet (Nat.le_add_left ..) room (by rw [State.heard_plant, answer]; exact quiet), State.heard_plant,
    answer]
  rfl

/-! ## The eligibility of the other filters (03 R51) -/

/-- Eligibility rests on the filter's state and circuit, on the filters in service, and on the circuit's floor and flow. -/
theorem State.eligibilityOf_congr {g : FilterId} (circuits : t.circuits = s.circuits) (flow : t.flow = s.flow)
    (state : (t.filters.get g).state = (s.filters.get g).state) (circuit : (t.filters.get g).circuit = (s.filters.get g).circuit)
    (serves : ∀ h c, (t.filters.get h).serves c = (s.filters.get h).serves c) : t.eligibilityOf g = s.eligibilityOf g := by
  have count : t.serviceCount = s.serviceCount := funext fun c => by
    simp only [State.serviceCount, State.countFilters, serves]
  have proven : t.flowProven = s.flowProven := funext fun c => by rw [State.flowProven, flow]; rfl
  unfold State.eligibilityOf
  dsimp only
  rw [state, circuit, circuits, count, proven]

theorem State.hasPath_congr (serves : ∀ h c, (t.filters.get h).serves c = (s.filters.get h).serves c) (c : CircuitId) :
    t.hasPath c = s.hasPath c := by
  simp only [State.hasPath, serves]

/-- A filter that is not in service before nor after serves no circuit. -/
theorem FilterRecord.not_serves {r : FilterRecord} (h : r.state ≠ .service) (c : CircuitId) : r.serves c = false := by
  rw [FilterRecord.serves, beq_false_of_ne h, Bool.false_and]

/-- The record of one filter out of service and out of the queue changes nothing for the queue and the paths. -/
theorem State.offLine_change (filters : t.filters = s.filters.set f x) (queue : t.queue = s.queue)
    (circuits : t.circuits = s.circuits) (flow : t.flow = s.flow) (paths : t.pathOpen = s.pathOpen)
    (noEntry : ∀ e ∈ s.queue, e.filter ≠ f) (before : (s.filters.get f).state ≠ .service) (after : x.state ≠ .service)
    (evaluated : s.Evaluated) (quiet : s.Quiet) : t.Evaluated ∧ ∀ c, t.pathOpen.get c = t.hasPath c := by
  have other {g : FilterId} (h : g ≠ f) : t.filters.get g = s.filters.get g := by
    rw [filters, Bank.get_set, if_neg h]
  have serves (g : FilterId) (c : CircuitId) : (t.filters.get g).serves c = (s.filters.get g).serves c := by
    by_cases h : g = f
    · rw [h, filters, Bank.get_set_same, FilterRecord.not_serves before, FilterRecord.not_serves after]
    · rw [other h]
  refine ⟨fun e mem => ?_, fun c => ?_⟩
  · rw [queue] at mem
    rw [evaluated e mem]
    have same := other (noEntry e mem)
    exact (State.eligibilityOf_congr circuits flow (congrArg _ same) (congrArg _ same) serves).symm
  · rw [paths, quiet.paths, State.hasPath_congr serves]

/-! ## TAKE_OUT_OF_USE (01 R23, 10 R197) -/

theorem removeEntry_self {q : List QueueEntry} (h : ∀ e ∈ q, e.filter ≠ f) : removeEntry q f = q :=
  List.filter_eq_self.2 fun e m => by simpa using h e m

theorem State.dropEntry_frame (s : State) (f : FilterId) :
    s.dropEntry f = { s with queue := removeEntry s.queue f, due := (s.dropEntry f).due } := by
  unfold State.dropEntry
  split
  · rfl
  · next none =>
    rw [removeEntry_self (State.entryOf_none (by simpa using none))]

theorem State.dropEntry_none (h : ∀ e ∈ s.queue, e.filter ≠ f) : s.dropEntry f = s := by
  unfold State.dropEntry State.entryOf
  rw [if_neg]
  simpa using h

/-- The answers to a request of port P by the filter's state. -/
theorem State.answer_takeOut (running : s.plant = .running) (code : Byte) :
    s.answer .plant (Kind.code .takeOutOfUse) [code] = s.takeTakeOutOfUse [code] := by
  unfold State.answer State.check
  rw [kindOf_code]
  simp [running, Kind.plantOnly, Kind.count, Kind.runningOnly, State.handle]

theorem State.answer_return (running : s.plant = .running) (code : Byte) :
    s.answer .plant (Kind.code .returnToUse) [code] = s.takeReturnToUse [code] := by
  unfold State.answer State.check
  rw [kindOf_code]
  simp [running, Kind.plantOnly, Kind.count, Kind.runningOnly, State.handle]

/-- A filter that moves to another state leaves the rest of the part undisturbed. -/
theorem State.Undisturbed.moveFilter (s : State) (f : FilterId) (st : FilterState) {g : FilterRecord → FilterRecord}
    (switch : (g (s.filters.get f)).dpActive = (s.filters.get f).dpActive) : s.Undisturbed (s.moveFilter f st g) :=
  { State.Undisturbed.refl s with
    switches := fun q => by
      show ((s.filters.set f _).get q).dpActive = _
      rw [Bank.get_set]
      split
      · next e => rw [e, FilterRecord.enter_dpActive, switch]
      · rfl }

/-- A travel asked for a filter that has just moved to a state of its own leaves the rest undisturbed. -/
theorem State.Undisturbed.movedAway (s : State) {st : FilterState} {g : FilterRecord → FilterRecord}
    (switch : (g (s.filters.get f)).dpActive = (s.filters.get f).dpActive) (fault : st ≠ .fault) (out : st ≠ .outOfUse)
    {t : State} (reacts : ¬ (s.moveFilter f st g).Still f → Reacts (s.moveFilter f st g) t) : s.Undisturbed t :=
  (State.Undisturbed.moveFilter s f st switch).trans (reacts (s.moveFilter_not_still f g fault out)).undisturbed

theorem State.Undisturbed.park (s : State) (f : FilterId) : s.Undisturbed (s.park f) :=
  State.Undisturbed.movedAway s rfl (by decide) (by decide) fun awake =>
    ((Reacts.refl _).dropEntry f).fileTravel .park .maintenance awake

/-- The record of a filter that is being parked (01 R23). -/
def FilterRecord.parked (r : FilterRecord) : FilterRecord :=
  { r.outside .parking with circuit := none, cover := false, faultKind := none }

theorem State.park_waits (h : s.MustWait f .park) : s.park f = { s with
    filters := s.filters.set f (s.filters.get f).parked
    requests := s.requests.set f (some { target := .park, requester := .maintenance, active := false })
    channels := (s.park f).channels, travelQueue := s.travelQueue ++ [f], queue := removeEntry s.queue f
    due := (s.park f).due } := by
  unfold State.park
  dsimp only
  generalize moved : s.moveFilter f .parking _ = m
  have frame := m.dropEntry_frame f
  have same : m = { s with filters := s.filters.set f (s.filters.get f).parked, due := m.due } := by rw [← moved]; rfl
  have waits : (m.dropEntry f).MustWait f .park := by
    rw [frame, same]
    exact ⟨h.request, h.elsewhere, h.held⟩
  rw [waits.fileTravel]
  generalize m.dropEntry f = u at frame
  unfold State.queuedTravel
  rw [frame, same]
  rfl

/-- The event of a parking, notices having been posted: all but the bank is undisturbed; without pass and grant, where the
travel must wait, the filter is parked and the rest of the bank stays. -/
theorem State.takeOut_parks {code : Byte} (room : s.Room .plant) {ps : PerPort Port} {d : Due}
    (before : s.Undisturbed { s with ports := ps, due := d })
    (answer : s.answer .plant (Kind.code .takeOutOfUse) [code] =
      { status := .accepted, params := [code], state := State.park { s with ports := ps, due := d } f }) :
    ∃ t, exec (.takeOutOfUse .plant [code]) s = .next t ∧
      (s.respond .plant (s.statusByte .plant) 0x73#8 1 .accepted [code]).Undisturbed t ∧
      (s.stopActive = true → s.QueueLaw → s.MustWait f .park →
        t.filters = s.filters.set f (s.filters.get f).parked ∧
        t.requests = s.requests.set f (some { target := .park, requester := .maintenance, active := false }) ∧
        t.travelQueue = s.travelQueue ++ [f] ∧
        t.queue.map (fun e => (e.filter, e.reasons)) =
          (s.queue.filter fun e => e.filter != f).map (fun e => (e.filter, e.reasons)) ∧
        t.line = s.line ∧
        ∀ k, (ps.get (.circuit k)).hasNotice .filterLeft = true → (t.ports.get (.circuit k)).hasNotice .filterLeft = true) := by
  obtain ⟨t, step, undisturbed, settles⟩ := exec_plant_request (k := .takeOutOfUse) room answer
  dsimp only at undisturbed settles
  have parks := State.Undisturbed.park { s with ports := ps, due := d } f
  refine ⟨t, step, ((before.trans parks).respond ..).trans undisturbed, fun stop law wait => ?_⟩
  have parked := State.park_waits (s := { s with ports := ps, due := d }) (f := f)
    ⟨wait.request, wait.elsewhere, wait.held⟩
  generalize State.park { s with ports := ps, due := d } f = u at parked parks undisturbed settles
  have settled := settles (.inl (by rw [parked]; exact stop))
  refine ⟨settled.filters.trans ?_, settled.requests.trans ?_, settled.travelQueue.trans ?_,
    (settled.entries ?_).trans ?_, settled.line.trans ?_, fun k posted => ?_⟩
  · exact (congrArg State.filters parked :)
  · exact (congrArg State.requests parked :)
  · exact (congrArg State.travelQueue parked :)
  · rw [show u.queue = removeEntry s.queue f from (congrArg State.queue parked :)]
    exact removeEntry_nodup f law.distinct
  · exact (congrArg State.entries parked :)
  · exact (congrArg State.line parked :)
  · refine (((parks.respond ..).trans undisturbed).ports (.circuit k)).notices _ ?_
    cases k <;> exact posted

/-- The states in which a filter cannot be taken out of use (01 R23). -/
def FilterState.staysInUse (st : FilterState) : Prop :=
  st ∈ [FilterState.unknown, .homing, .joining, .leaving, .cleaning, .parking, .outOfUse]

theorem State.takeOut_refused (h : (s.filters.get f).state.staysInUse) (code : Byte) :
    s.takeOut f code = s.refuse .refusedState := by
  unfold State.takeOut
  split
  case h_1 e | h_2 e | h_3 e => rw [e] at h; exact absurd h (by unfold FilterState.staysInUse; decide)
  all_goals rfl

theorem State.takeOut_lost (h : (s.filters.get f).state = .fault) (lost : (s.channels.get f).position = none) (code : Byte) :
    s.takeOut f code = { status := .done, params := [code], state :=
      (s.moveFilter f .outOfUse fun r => { r with faultKind := none }).dropEntry f } := by
  unfold State.takeOut
  rw [h, lost]
  rfl

/-- Any other filter is parked, a notice posted if it was in service. -/
theorem State.takeOut_accepted (h : ¬ (s.filters.get f).state.staysInUse)
    (known : ¬ ((s.filters.get f).state = .fault ∧ (s.channels.get f).position = none)) (code : Byte) :
    ∃ ps d, s.takeOut f code = { status := .accepted, params := [code], state := State.park { s with ports := ps, due := d } f } ∧
      s.Undisturbed { s with ports := ps, due := d } ∧
      ∀ k, (s.filters.get f).state = .service → (s.filters.get f).circuit = some k →
        (ps.get (.circuit k)).hasNotice .filterLeft = true := by
  unfold State.takeOut
  split
  · next e => exact ⟨s.ports, s.due, rfl, .refl s, fun k x => by rw [e] at x; cases x⟩
  · have posted := (Reacts.refl s).needPass.postTo (s.filters.get f).circuit .filterLeft
    have frame := State.postTo_frame s.needPass (s.filters.get f).circuit .filterLeft
    refine ⟨_, _, congrArg (fun u => ({ status := .accepted, params := [code], state := State.park u f } : Answer)) frame, ?_,
      fun k _ on => State.postTo_notice _ on _⟩
    rw [frame] at posted
    exact posted.undisturbed
  · next e =>
    rw [if_pos (Option.isSome_iff_ne_none.2 fun none => known ⟨e, none⟩)]
    exact ⟨s.ports, s.due, rfl, .refl s, fun k x => by rw [e] at x; cases x⟩
  all_goals next e => exact absurd (by rw [e]; unfold FilterState.staysInUse; decide) h

/-- Settles O33. -/
theorem takeOutOfUseParksTheFilter : Obligations.TakeOutOfUseParksTheFilter := by
  unfold Obligations.TakeOutOfUseParksTheFilter
  intro s code room quiet running answer c
  have answers := State.answer_takeOut running code
  unfold State.takeTakeOutOfUse at answers
  dsimp only at answers
  split
  · next none =>
    rw [none] at answers
    exact exec_plant_refused (k := .takeOutOfUse) room quiet answers
  next f named =>
  rw [named] at answers
  dsimp only at answers ⊢
  split
  · next refused =>
    rw [State.takeOut_refused refused] at answers
    exact exec_plant_refused (k := .takeOutOfUse) room quiet answers
  next accepted =>
  split
  · next lost =>
    obtain ⟨fault, lost⟩ := lost
    intro noEntry evaluated noGrant
    rw [State.takeOut_lost fault lost, State.dropEntry_none (s := s.moveFilter f _ _) noEntry] at answers
    obtain ⟨evaluated', paths⟩ := State.offLine_change (t := s.moveFilter f .outOfUse fun r => { r with faultKind := none })
      rfl rfl rfl rfl rfl noEntry (by rw [fault]; decide) (by simp) evaluated quiet
    have spent : (s.moveFilter f .outOfUse fun r => { r with faultKind := none }).Spent :=
      ⟨evaluated', noGrant, fun due => by
        have none : s.due.pass = true := due
        rw [quiet.due] at none
        cases none⟩
    refine (exec_plant_request_spent (k := .takeOutOfUse) room answers spent paths).trans ?_
    have due : Due.none = s.due := quiet.due.symm
    rw [due]
    rfl
  · next known =>
    obtain ⟨ps, d, parks, before, left⟩ := State.takeOut_accepted accepted known code
    rw [parks] at answers
    obtain ⟨t, step, undisturbed, parked⟩ := State.takeOut_parks room before answers
    refine ⟨t, step, undisturbed, fun stop law wait => ?_⟩
    obtain ⟨filters, requests, travels, queue, line, notices⟩ := parked stop law wait
    exact ⟨filters, requests, travels, queue, line, fun k service on => notices k (left k service on)⟩

/-! ## RETURN_TO_USE (01 R24, 10 R197) -/

/-- The states from which a filter returns to use (01 R24). -/
def FilterState.isOut (st : FilterState) : Prop := st = .outOfUse ∨ st = .fault

theorem State.returnToUse_refused (h : ¬ (s.filters.get f).state.isOut) (code : Byte) :
    s.returnToUse f code = s.refuse .refusedState := by
  unfold State.returnToUse
  split
  · next e => exact absurd (.inl e) h
  · next e => exact absurd (.inr e) h
  all_goals rfl

theorem State.returnToUse_homes (h : (s.filters.get f).state.isOut) (code : Byte) :
    s.returnToUse f code = { status := .accepted, params := [code], state :=
      (s.moveFilter f .homing fun r => { r with faultKind := none }).fileTravel f .closed .homing } := by
  unfold State.returnToUse
  rcases h with h | h <;> rw [h]

theorem State.Undisturbed.startHoming (s : State) (f : FilterId) :
    s.Undisturbed ((s.moveFilter f .homing fun r => { r with faultKind := none }).fileTravel f .closed .homing) :=
  State.Undisturbed.movedAway s rfl (by decide) (by decide) fun awake => (Reacts.refl _).fileTravel .closed .homing awake

/-- Settles O34. -/
theorem returnToUseHomesTheFilter : Obligations.ReturnToUseHomesTheFilter := by
  unfold Obligations.ReturnToUseHomesTheFilter
  intro s code room quiet running answer c
  have answers := State.answer_return running code
  unfold State.takeReturnToUse at answers
  dsimp only at answers
  split
  · next none =>
    rw [none] at answers
    exact exec_plant_refused (k := .returnToUse) room quiet answers
  next f named =>
  rw [named] at answers
  dsimp only at answers ⊢
  split
  · next out =>
    rw [State.returnToUse_homes out] at answers
    refine ⟨?_, fun request held evaluated noEntry noGrant => ?_⟩
    · obtain ⟨t, step, undisturbed, -⟩ := exec_plant_request (k := .returnToUse) room answers
      exact ⟨t, step, ((State.Undisturbed.startHoming s f).respond ..).trans undisturbed⟩
    · have away : (s.filters.get f).state ≠ .service := fun e => by rw [e] at out; simp at out
      rw [State.fileTravel_homing (s := s.moveFilter f .homing _) request held] at answers
      generalize queued : State.queuedTravel _ f .closed .homing = u at answers
      obtain ⟨evaluated', paths⟩ := State.offLine_change (s := s) (t := u)
        (x := { (s.filters.get f).outside .homing with faultKind := none }) (by rw [← queued]; rfl) (by rw [← queued]; rfl)
        (by rw [← queued]; rfl) (by rw [← queued]; rfl) (by rw [← queued]; rfl) noEntry away
        (by simp [FilterRecord.outside]) evaluated quiet
      have spent : u.Spent := ⟨evaluated', by rw [← queued]; exact noGrant, fun due => by
        rw [← queued] at due
        have none : s.due.pass = true := due
        rw [quiet.due] at none
        cases none⟩
      refine (exec_plant_request_spent (k := .returnToUse) room answers spent paths).trans ?_
      have due : Due.none = s.due := quiet.due.symm
      rw [due, ← queued]
      rfl
  · next inUse =>
    rw [State.returnToUse_refused inUse] at answers
    exact exec_plant_refused (k := .returnToUse) room quiet answers

end Sys2Proof.Machine
end

section
/-! SUPPORT. Events of a selector that change its channel alone: contacts, home edges, and starts and settles with no slot to
hand out. -/

namespace Sys2Proof.Machine

variable {s : State} {f : FilterId}

/-! ## A state with one channel replaced -/

/-- The state with one channel replaced. -/
def State.withChannel (s : State) (f : FilterId) (y : Channel) : State :=
  { s with channels := s.channels.set f y }

theorem State.updChannel_eq (s : State) (f : FilterId) (g : Channel → Channel) :
    s.updChannel f g = s.withChannel f (g (s.channels.get f)) := rfl

theorem State.withChannel_get (s : State) (f : FilterId) (y : Channel) : (s.withChannel f y).channels.get f = y :=
  Bank.get_set_same ..

theorem State.withChannel_updChannel (s : State) (f : FilterId) (y : Channel) (g : Channel → Channel) :
    (s.withChannel f y).updChannel f g = s.withChannel f (g y) :=
  s.updChannel_updChannel f (fun _ => y) g

theorem State.withChannel_withChannel (s : State) (f : FilterId) (y z : Channel) :
    (s.withChannel f y).withChannel f z = s.withChannel f z :=
  s.updChannel_updChannel f (fun _ => y) fun _ => z

theorem State.withChannel_self (s : State) (f : FilterId) : s.withChannel f (s.channels.get f) = s :=
  State.updChannel_self (g := id) rfl

theorem State.Quiet.withChannel (h : s.Quiet) (f : FilterId) (y : Channel) : (s.withChannel f y).Quiet :=
  h.of_eq rfl rfl rfl

/-- An event that comes to a quiet state ends there. -/
theorem exec_quiet {c : Instr} {X t : State} (step : exec c s = .next X.finishEvent) (result : X = t) (quiet : t.Quiet) :
    exec c s = .next t := by
  rw [step, result, quiet.finishEvent]

/-- An event of a quiet state that replaces a channel does nothing else. -/
theorem exec_only {c : Instr} {X : State} {y : Channel} (quiet : s.Quiet) (step : exec c s = .next X.finishEvent)
    (only : X = s.withChannel f y) : exec c s = .next { s with channels := s.channels.set f y } :=
  exec_quiet step only (quiet.withChannel f y)

/-- An event of a quiet state that does nothing. -/
theorem exec_nothing {c : Instr} {X : State} (quiet : s.Quiet) (step : exec c s = .next X.finishEvent) (only : X = s) :
    exec c s = .next s := exec_quiet step only quiet

/-! ## Starts and settles (05 R99 to R101, 06 R119) -/

/-- A settle over a stop with the detent open. -/
def Channel.settleOver (ch : Channel) (stop : Stop) (timer : Nat) : Channel :=
  { ch with state := .settling, speed := 0, residue := 0, overrun := false, settleStop := some stop,
            settleTimer := some timer }

theorem State.enterSettling_open (opened : (s.channels.get f).detent = false) (stop : Stop) :
    s.enterSettling f stop = s.withChannel f ((s.channels.get f).settleOver stop s.settings.detentSettle) := by
  unfold State.enterSettling
  simp only [State.updChannel_eq, opened, Bool.false_eq_true, if_false]
  rfl

theorem State.startTravel_only {target : Stop} {y : Channel}
    (start : (s.channels.get f).start target s.pauseCondition = (y, none)) :
    s.startTravel f target = s.withChannel f y := by
  unfold State.startTravel State.afterStart
  rw [start]
  rfl

/-- The way round to a stop in steps clockwise, by which a start chooses its direction (05 R99). -/
theorem shorterWay_eq {p : Nat} (hp : p < 1600) (k : Stop) :
    shorterWay p k.position = if (k.position + 1600 - p) % 1600 ≤ 800 then .cw else .ccw := by
  have hk : k.position < 1600 := k.position_lt
  unfold shorterWay distance Config.revolution
  simp only [Nat.mod_eq_of_lt hp, Nat.mod_eq_of_lt hk]
  exact if_congr (by omega) rfl rfl

/-- A start that keeps the present direction, or the first (05 R101). -/
theorem Channel.start_begins {ch : Channel} {target : Stop} {p : Nat} {d : Dir} (position : ch.position = some p)
    (chosen : ch.chooseDir p target.position = some d) (mark : ch.overrun = false) (dir : ch.dir = none ∨ ch.dir = some d) :
    ch.start target false = (ch.begin d ch.profile.startCreep, none) := by
  unfold Channel.start
  simp only [position, chosen, mark, Bool.false_or]
  rcases dir with e | e <;> simp [e]

/-- A start in the other direction dwells first (05 R100). -/
theorem Channel.start_dwells {ch : Channel} {target : Stop} {p : Nat} {d : Dir} (position : ch.position = some p)
    (chosen : ch.chooseDir p target.position = some d) (turned : ch.dir.isSome = true) (dir : ch.dir ≠ some d)
    (paused : Bool) : ch.start target paused = (ch.halt .dwell, none) := by
  unfold Channel.start
  simp [position, chosen, turned, dir]

theorem Channel.chooseDir_free {ch : Channel} {p target : Nat} {d : Dir} (way : shorterWay p target = d)
    (free : ch.torque d = false) : ch.chooseDir p target = some d := by
  unfold Channel.chooseDir
  simp [way, free]

theorem Channel.chooseDir_blocked {ch : Channel} {p target : Nat} {d : Dir} (way : shorterWay p target = d)
    (blocked : ch.torque d = true) (free : ch.torque (otherDir d) = false) : ch.chooseDir p target = some (otherDir d) := by
  unfold Channel.chooseDir
  simp [way, blocked, free]

/-! ## Home edges (06 R123, R127) -/

/-- The channel when the home flag goes to a level: the record of an edge the other way is discarded. -/
def Channel.flagGoes (ch : Channel) (rising : Bool) : Channel :=
  if ch.edge.any fun e => e.rising != rising then { ch with edge := none } else ch

/-- No search ends where the home flag goes to a level: the record of the other edge, if one stands, ends no phase, or the
search has not come to its limit. -/
def Channel.CalmAt (ch : Channel) (rising : Bool) : Prop :=
  (ch.edge.any fun e => e.rising != rising) = true → ch.edgeHeld = false ∨ ch.search < 1700

theorem State.homeEdgeFails_only (h : (s.channels.get f).edgeHeld = false ∨ (s.channels.get f).search < 1700) :
    s.homeEdgeFails f = s.withChannel f { s.channels.get f with edge := none } := by
  unfold State.homeEdgeFails
  rw [if_neg]
  · rfl
  · unfold Config.searchLimit
    rcases h with h | h
    · simp [h]
    · simp only [Bool.and_eq_true, decide_eq_true_eq, not_and]
      omega

theorem State.homeFlagGoes_only {rising : Bool} (calm : (s.channels.get f).CalmAt rising) :
    s.homeFlagGoes f rising = s.withChannel f ((s.channels.get f).flagGoes rising) := by
  unfold State.homeFlagGoes Channel.flagGoes
  split
  · next back => exact State.homeEdgeFails_only (calm back)
  · exact (s.withChannel_self f).symm

theorem State.homeEdgeRaw_only {rising : Bool} (calm : (s.channels.get f).CalmAt rising) :
    s.homeEdgeRaw f rising = s.withChannel f (((s.channels.get f).flagGoes rising).rawEdge rising) := by
  unfold State.homeEdgeRaw
  rw [State.homeFlagGoes_only calm, State.withChannel_updChannel]

/-- A channel that takes a confirmed level, its record discarded. -/
def Channel.confirmed (ch : Channel) (rising : Bool) : Channel := { ch with home := rising, edge := none }

theorem Channel.flagGoes_discard (ch : Channel) (rising : Bool) :
    { ch.flagGoes rising with edge := none } = { ch with edge := none } := by
  unfold Channel.flagGoes
  split <;> rfl

theorem State.homeFlagGoes_confirming {rising : Bool} (calm : (s.channels.get f).CalmAt rising) :
    (s.updChannel f fun ch => { ch with home := rising }).homeFlagGoes f rising =
      s.withChannel f (({ s.channels.get f with home := rising } : Channel).flagGoes rising) := by
  rw [State.updChannel_eq]
  generalize level : ({ s.channels.get f with home := rising } : Channel) = y
  have calm' : ((s.withChannel f y).channels.get f).CalmAt rising := by
    rw [State.withChannel_get, ← level]
    exact calm
  rw [State.homeFlagGoes_only calm', State.withChannel_get, State.withChannel_withChannel]

theorem State.discard_confirmed (s : State) (f : FilterId) (rising : Bool) :
    (s.withChannel f (({ s.channels.get f with home := rising } : Channel).flagGoes rising)).updChannel f
      (fun ch => { ch with edge := none }) = s.withChannel f ((s.channels.get f).confirmed rising) := by
  rw [State.withChannel_updChannel, Channel.flagGoes_discard]
  rfl

theorem State.homeEdgeConfirmed_fall (calm : (s.channels.get f).CalmAt false) :
    s.homeEdgeConfirmed f false = (s.withChannel f ((s.channels.get f).confirmed false)).takeFall f := by
  unfold State.homeEdgeConfirmed
  dsimp only
  rw [State.homeFlagGoes_confirming calm, State.discard_confirmed, if_neg (by decide)]

/-- A confirmed rise for which no rising record stands is a level alone (06 R123). -/
theorem State.homeEdgeConfirmed_level (calm : (s.channels.get f).CalmAt true)
    (noRise : ∀ e, (s.channels.get f).edge = some e → e.rising = false) :
    s.homeEdgeConfirmed f true = s.withChannel f ((s.channels.get f).confirmed true) := by
  have none : (({ s.channels.get f with home := true } : Channel).flagGoes true).edge = none := by
    unfold Channel.flagGoes
    dsimp only
    cases he : (s.channels.get f).edge with
    | none => rfl
    | some e => simp [noRise e he]
  unfold State.homeEdgeConfirmed
  dsimp only
  rw [State.homeFlagGoes_confirming calm, State.discard_confirmed, if_pos rfl, State.withChannel_get, none]

theorem State.takeFall_clears (takes : (s.channels.get f).state.takesEdge = true)
    (clear : (s.channels.get f).homing = some .clear) :
    s.takeFall f = s.withChannel f { s.channels.get f with homing := some .search, search := 0 } := by
  unfold State.takeFall
  rw [if_pos (by simp [takes, clear])]
  rfl

theorem State.takeFall_none (clear : (s.channels.get f).homing ≠ some .clear) : s.takeFall f = s := by
  unfold State.takeFall
  rw [if_neg (by simp [clear])]

theorem State.takeRise_none {e : EdgeRecord}
    (phase : (s.channels.get f).homing = some .clear ∨ (s.channels.get f).homing = some .approach) :
    s.takeRise f e = s := by
  unfold State.takeRise
  split
  · rfl
  · split
    · rcases phase with h | h <;> rw [h]
    · rfl

/-- The correction of a confirmed edge that stays short of the target, or of a channel that does not turn (06 R124). -/
theorem State.resync_corrects {target : Stop} {e : EdgeRecord} {recorded p : Nat} (he : e.position = some recorded)
    (hp : (s.channels.get f).position = some p) (small : (drift e.dir recorded).natAbs ≤ 8)
    (short : ¬ ((s.channels.get f).state = .moving ∧ 0 < forward (s.channels.get f).turning (drift e.dir recorded) ∧
      ((s.channels.get f).remaining p target : Int) ≤ forward (s.channels.get f).turning (drift e.dir recorded))) :
    s.resync f target e =
      s.withChannel f { s.channels.get f with position := some (corrected p (drift e.dir recorded)) } := by
  unfold State.resync
  simp only [he, hp, if_pos small, if_neg short]
  rfl

/-- The correction that carries a turning channel to its target or past it (06 R124). -/
theorem State.resync_settles {target : Stop} {e : EdgeRecord} {recorded p : Nat} (he : e.position = some recorded)
    (hp : (s.channels.get f).position = some p) (small : (drift e.dir recorded).natAbs ≤ 8)
    (reached : (s.channels.get f).state = .moving ∧ 0 < forward (s.channels.get f).turning (drift e.dir recorded) ∧
      ((s.channels.get f).remaining p target : Int) ≤ forward (s.channels.get f).turning (drift e.dir recorded))
    (opened : (s.channels.get f).detent = false) (noHandOut : s.NoHandOut) :
    s.resync f target e = s.withChannel f
      (({ s.channels.get f with position := some (corrected p (drift e.dir recorded)) } : Channel).settleOver target
        s.settings.detentSettle) := by
  unfold State.resync
  simp only [he, hp, if_pos small, if_pos reached]
  rw [State.updChannel_eq, State.enterSettling_open (by rw [State.withChannel_get]; exact opened), State.withChannel_get,
    State.withChannel_withChannel]
  exact State.NoHandOut.handOut noHandOut

end Sys2Proof.Machine
end

section
/-! SUPPORT. What leaves the Selector Drive as it is: the Filter Table, the queue and the Line between their travels. Arrivals
of the filters that the Filter Table moves (01 R5, R6, R7). -/

namespace Sys2Proof.Machine

variable {s t u : State} {f : FilterId}

/-! ## Updates of the queue, the notices and what is due -/

/-- Only the queue, the notices and what is due have changed. -/
def QueueOnly (s t : State) : Prop := t = { s with queue := t.queue, ports := t.ports, due := t.due }

namespace QueueOnly

theorem refl (s : State) : QueueOnly s s := rfl

theorem trans (h : QueueOnly s t) (k : QueueOnly t u) : QueueOnly s u :=
  Eq.trans k (congrArg (fun x : State => { x with queue := u.queue, ports := u.ports, due := u.due }) h)

theorem withDue (s : State) (d : Due) : QueueOnly s { s with due := d } := rfl
theorem post (s : State) (p : PortId) (n : Notice) : QueueOnly s (s.post p n) := rfl
theorem setQueue (s : State) (q : List QueueEntry) : QueueOnly s (s.setQueue q) := rfl

theorem postTo (s : State) (c : Option CircuitId) (n : Notice) : QueueOnly s (s.postTo c n) := by
  unfold QueueOnly
  rw [State.postTo_frame]

theorem takeEligibility (s : State) (f : FilterId) (v : Eligibility) : QueueOnly s (s.takeEligibility f v) := by
  cases v with
  | needsStop => exact postTo s _ _
  | floorBlocked => exact withDue s _
  | eligible | inTransit => exact refl s

theorem fileEntry (s : State) (f : FilterId) (r : Reasons) : QueueOnly s (s.fileEntry f r) := by
  unfold State.fileEntry
  split
  · split
    · dsimp only
      split <;> exact rfl
    · exact (setQueue s _).trans ((takeEligibility _ f _).trans (withDue _ _))
  · exact refl s

theorem checkLoads (s : State) (f : FilterId) : QueueOnly s (s.checkLoads f) := by
  have throughput (u : State) : QueueOnly u (u.checkThroughput f) := by
    unfold State.checkThroughput
    split
    · exact fileEntry u f _
    · exact refl u
  have runTime (u : State) : QueueOnly u (u.checkRunTime f) := by
    unfold State.checkRunTime
    split
    · exact fileEntry u f _
    · exact refl u
  exact (throughput s).trans (runTime _)

theorem evaluateQueue (s : State) : QueueOnly s s.evaluateQueue := by
  have entry (u : State) (f : FilterId) : QueueOnly u (u.evaluateEntry f) := by
    unfold State.evaluateEntry
    split
    · exact refl u
    · dsimp only
      split
      · exact refl u
      · exact (setQueue u _).trans ((takeEligibility _ f _).trans (withDue _ _))
  unfold State.evaluateQueue
  generalize (s.queue.map QueueEntry.filter) = l
  induction l generalizing s with
  | nil => exact refl s
  | cons f l ih => exact (entry s f).trans (ih _)

end QueueOnly

/-! ## The drive left as it is -/

/-- The channels, the travel requests, the slots and the conditions that hold up a travel are the same. -/
def SameDrive (s t : State) : Prop :=
  t.channels = s.channels ∧ t.requests = s.requests ∧ t.travelQueue = s.travelQueue ∧ t.slots = s.slots ∧
    t.surge = s.surge ∧ t.stopActive = s.stopActive ∧ t.settings = s.settings

namespace SameDrive

theorem refl (s : State) : SameDrive s s := ⟨rfl, rfl, rfl, rfl, rfl, rfl, rfl⟩

theorem trans (h : SameDrive s t) (k : SameDrive t u) : SameDrive s u := by
  obtain ⟨h1, h2, h3, h4, h5, h6, h7⟩ := h
  obtain ⟨k1, k2, k3, k4, k5, k6, k7⟩ := k
  exact ⟨k1.trans h1, k2.trans h2, k3.trans h3, k4.trans h4, k5.trans h5, k6.trans h6, k7.trans h7⟩

theorem channels (h : SameDrive s t) : t.channels = s.channels := h.1
theorem requests (h : SameDrive s t) : t.requests = s.requests := h.2.1
theorem travelQueue (h : SameDrive s t) : t.travelQueue = s.travelQueue := h.2.2.1
theorem slots (h : SameDrive s t) : t.slots = s.slots := h.2.2.2.1
theorem stopActive (h : SameDrive s t) : t.stopActive = s.stopActive := h.2.2.2.2.2.1
theorem settings (h : SameDrive s t) : t.settings = s.settings := h.2.2.2.2.2.2

theorem pauseCondition (h : SameDrive s t) : t.pauseCondition = s.pauseCondition := by
  obtain ⟨-, -, -, -, surge, stop, settings⟩ := h
  unfold State.pauseCondition
  rw [surge, stop, settings]

theorem noHandOut (h : SameDrive s t) (k : s.NoHandOut) : t.NoHandOut := by
  unfold State.NoHandOut
  rw [h.slots, h.travelQueue, h.pauseCondition]
  exact k

theorem updFilter (s : State) (f : FilterId) (g : FilterRecord → FilterRecord) : SameDrive s (s.updFilter f g) := refl s
theorem moveFilter (s : State) (f : FilterId) (st : FilterState) (g : FilterRecord → FilterRecord) :
    SameDrive s (s.moveFilter f st g) := refl s
theorem needPass (s : State) : SameDrive s s.needPass := refl s
theorem filterChanged (s : State) : SameDrive s s.filterChanged := refl s
theorem setPump (s : State) (b : Bool) : SameDrive s (s.setPump b) := refl s
theorem lineIdle (s : State) : SameDrive s s.lineIdle := refl s
theorem post (s : State) (p : PortId) (n : Notice) : SameDrive s (s.post p n) := refl s

theorem queueOnly (h : QueueOnly s t) : SameDrive s t := by
  rw [h]
  exact refl s

theorem postTo (s : State) (c : Option CircuitId) (n : Notice) : SameDrive s (s.postTo c n) :=
  queueOnly (QueueOnly.postTo s c n)

theorem fileEntry (s : State) (f : FilterId) (r : Reasons) : SameDrive s (s.fileEntry f r) :=
  queueOnly (QueueOnly.fileEntry s f r)

theorem checkLoads (s : State) (f : FilterId) : SameDrive s (s.checkLoads f) := queueOnly (QueueOnly.checkLoads s f)

theorem formAllReasons (s : State) (g : Interlocks → Interlocks) : SameDrive s (s.formAllReasons g) := by
  obtain ⟨ds, ps, e⟩ := s.formAllReasons_frame g
  rw [e]
  exact refl s

theorem enterRunning (s : State) : SameDrive s s.enterRunning := by
  have posted : SameDrive s (State.post { s with plant := .running } .plant .homingDone) := refl s
  show SameDrive s ((State.post { s with plant := .running } .plant .homingDone).formAllReasons fun r =>
    { r with notRunning := false }).needPass.filterChanged
  generalize State.post { s with plant := .running } .plant .homingDone = u at posted ⊢
  exact posted.trans ((formAllReasons u _).trans ((needPass _).trans (filterChanged _)))

theorem reportHoming (s : State) (f : FilterId) : SameDrive s (s.reportHoming f) := by
  unfold State.reportHoming
  split
  · dsimp only
    split
    · exact enterRunning { s with bankHoming := s.bankHoming.set f false }
    · exact refl s
  · exact refl s

theorem arriveJoining (s : State) (f : FilterId) : SameDrive s (s.arriveJoining f) :=
  (moveFilter s f .service id).trans ((postTo _ _ _).trans ((checkLoads _ f).trans (refl _)))

theorem arriveHoming (s : State) (f : FilterId) : SameDrive s (s.arriveHoming f) := by
  unfold State.arriveHoming
  dsimp only
  refine trans ?_ (reportHoming _ f)
  split
  · exact (moveFilter s f .standby id).trans (fileEntry _ f _)
  · exact refl s

theorem filterArrived (s : State) (f : FilterId) : SameDrive s (s.filterArrived f) := by
  unfold State.filterArrived
  split
  · exact arriveJoining s f
  · exact refl s
  · exact refl s
  · exact arriveHoming s f
  all_goals exact refl s

theorem faultFilter (s : State) (f : FilterId) (kind : FaultKind) : SameDrive s (s.faultFilter f kind) := by
  by_cases h : (s.filters.get f).state = .fault
  · unfold State.faultFilter
    rw [if_pos h]
    exact refl s
  · rw [State.faultFilter_eq h]
    refine trans ?_ ((post _ .plant .filterFault).trans ((postTo _ _ _).trans (refl _)))
    rw [State.faultRecorded_frame]
    exact refl s

theorem filterOutcome (s : State) (f : FilterId) (o : TravelOutcome) : SameDrive s (s.filterOutcome f o) := by
  unfold State.filterOutcome
  split
  · exact filterArrived s f
  · dsimp only
    split
    · exact (faultFilter s f _).trans (reportHoming _ f)
    · exact faultFilter s f _

end SameDrive

theorem Settles.sameDrive (h : Settles s t) : SameDrive s t := by
  rw [h.1]
  exact .refl s

/-! ## The seat of a travel of the Filter Table (06 R119) -/

/-- The outcome of a travel that is not the Line's goes to the Filter Table. -/
theorem State.deliver_filter {q : Requester} (h : q ≠ .backwashLine) (f : FilterId) (o : TravelOutcome) :
    s.deliver q f o = s.filterOutcome f o := by
  cases q with
  | backwashLine => exact absurd rfl h
  | allocator | maintenance | homing => rfl

/-- A channel that has taken its seat at a stop. -/
def Channel.seatedOver (ch : Channel) (stop : Stop) : Channel :=
  { ch with detent := true, position := some stop.position, seated := true, settleTimer := none, settleStop := none }

/-- The state after a seat at the target, before the outcome is delivered. -/
def State.seatTaken (s : State) (f : FilterId) (stop : Stop) : State :=
  (s.withChannel f ((s.channels.get f).seatedOver stop)).travelCleared f .arrived

/-- A detent that closes in a settle at the target ends the travel (06 R119). -/
theorem State.detentClose_arrives {r : TravelRequest} (request : s.requests.get f = some r)
    (settling : (s.channels.get f).state = .settling) (stop : (s.channels.get f).settleStop = some r.target) :
    s.detentClose f = ((s.seatTaken f r.target).deliver r.requester f .arrived).handOut := by
  have seat : (s.updChannel f fun ch => { ch with detent := true }).seatConfirmed f =
      (s.withChannel f ((s.channels.get f).seatedOver r.target)).finishTravel f .arrived := by
    rw [State.updChannel_eq]
    generalize closed : ({ s.channels.get f with detent := true } : Channel) = y
    have stop' : y.settleStop = some r.target := by rw [← closed]; exact stop
    unfold State.seatConfirmed
    rw [show (s.withChannel f y).requests.get f = some r from request]
    dsimp only
    rw [State.withChannel_get, stop', Option.getD_some, if_pos rfl, State.withChannel_updChannel, ← closed]
    rfl
  unfold State.detentClose
  dsimp only
  rw [if_pos settling, seat, State.finishTravel_eq (s := s.withChannel f _) request]
  rfl

theorem State.seatTaken_channel (s : State) (f : FilterId) (stop : Stop) :
    (s.seatTaken f stop).channels.get f = ((s.channels.get f).seatedOver stop).ended .arrived := by
  unfold State.seatTaken State.travelCleared
  exact (Bank.get_set_same ..).trans (congrArg (Channel.ended · .arrived) (State.withChannel_get ..))

theorem State.seatTaken_request (s : State) (f : FilterId) (stop : Stop) : (s.seatTaken f stop).requests.get f = none :=
  Bank.get_set_same ..

theorem Channel.seatedOver_ended (ch : Channel) (stop : Stop) :
    (ch.seatedOver stop).ended .arrived = ch.arrivedAt stop := by
  unfold Channel.seatedOver Channel.ended Channel.arrivedAt
  simp [Stop.position]

end Sys2Proof.Machine
end

section
/-! SUPPORT. Arrivals of the filters that the Filter Table moves, and detent losses at rest; travels that are retargeted while
they settle. O52. -/

namespace Sys2Proof.Machine

variable {s t u : State} {f : FilterId}

/-! ## The queue leaves the Filter Table as it is -/

theorem QueueOnly.filters (h : QueueOnly s t) : t.filters = s.filters := (congrArg State.filters h :)

theorem State.fileEntry_filters (s : State) (f : FilterId) (r : Reasons) : (s.fileEntry f r).filters = s.filters :=
  (QueueOnly.fileEntry s f r).filters

theorem State.checkLoads_filters (s : State) (f : FilterId) : (s.checkLoads f).filters = s.filters :=
  (QueueOnly.checkLoads s f).filters

theorem State.moveFilter_record (s : State) (f : FilterId) (st : FilterState) (g : FilterRecord → FilterRecord) :
    (s.moveFilter f st g).filters.get f = (g (s.filters.get f)).enter st s.settings.dpHold :=
  Bank.get_set_same ..

theorem State.postTo_filters (s : State) (c : Option CircuitId) (n : Notice) : (s.postTo c n).filters = s.filters := by
  rw [State.postTo_frame]

theorem State.arriveJoining_filters (s : State) (f : FilterId) :
    (s.arriveJoining f).filters = (s.moveFilter f .service id).filters := by
  show (State.checkLoads _ f).filters = _
  rw [State.checkLoads_filters, State.postTo_filters]

theorem FilterRecord.enter_service (r : FilterRecord) (n : Nat) : r.enter .service n = r.inService n := by
  unfold FilterRecord.enter FilterRecord.inService
  rw [if_pos rfl]

theorem FilterRecord.enter_outside (r : FilterRecord) {st : FilterState} (h : st ≠ .service) (n : Nat) :
    r.enter st n = r.outside st := by
  unfold FilterRecord.enter FilterRecord.outside
  rw [if_neg h]

theorem State.hasPath_of_serves {c : CircuitId} (h : (s.filters.get f).serves c = true) : s.hasPath c = true :=
  List.any_eq_true.2 ⟨f, by cases f <;> decide, h⟩

/-! ## An arrival under plant stop (01 R5, R6, R7) -/

/-- The detent that closes in the settle of a travel leaves all but the bank undisturbed. -/
theorem State.detentClose_undisturbed {r : TravelRequest} (request : s.requests.get f = some r) :
    (s.updChannel f fun ch => { ch with detent := true }).Undisturbed (s.detentClose f).finishEvent := by
  have awake : ¬ (s.updChannel f fun ch => { ch with detent := true }).Still f := State.not_still_of_request request
  unfold State.detentClose
  dsimp only
  split
  · exact ((Reacts.refl _).seatConfirmed awake).handOut.finishEvent.undisturbed
  · exact (Reacts.refl _).finishEvent.undisturbed

/-- Where no slot can be handed out, an arrival is taken by the Filter Table, and then the event ends. -/
theorem State.detentClose_filterArrived {r : TravelRequest} (request : s.requests.get f = some r)
    (notLine : r.requester ≠ .backwashLine) (settling : (s.channels.get f).state = .settling)
    (stop : (s.channels.get f).settleStop = some r.target) (held : (s.seatTaken f r.target).NoHandOut) :
    s.detentClose f = (s.seatTaken f r.target).filterArrived f := by
  rw [State.detentClose_arrives request settling stop, State.deliver_filter notLine]
  exact State.NoHandOut.handOut ((SameDrive.filterOutcome _ f .arrived).noHandOut held)

/-- The detent that closes at the target, where no slot can be handed out whatever the request was. -/
theorem State.detentClose_stopped {r : TravelRequest} (request : s.requests.get f = some r)
    (notLine : r.requester ≠ .backwashLine) (stopped : s.stopActive = true) (settling : (s.channels.get f).state = .settling)
    (stop : (s.channels.get f).settleStop = some r.target) :
    s.detentClose f = (s.seatTaken f r.target).filterArrived f :=
  State.detentClose_filterArrived request notLine settling stop
    (.inr (.inr (Bool.or_eq_true_iff.2 (.inl stopped))))

section

variable (dormant : (s.filterArrived f).Dormant)

include dormant

/-- Where neither pass nor grant follows, an arrival and the end of its event leave the drive as it is. -/
theorem State.filterArrived_drive : SameDrive s (s.filterArrived f).finishEvent :=
  (SameDrive.filterArrived s f).trans dormant.finishEvent.sameDrive

/-- A JOINING filter that arrives is in SERVICE, its circuit told and its path open (01 R5). -/
theorem State.joining_arrives (joining : (s.filters.get f).state = .joining) :
    (s.filterArrived f).finishEvent.filters.get f = (s.filters.get f).inService s.settings.dpHold ∧
      ∀ k, (s.filters.get f).circuit = some k →
        ((s.filterArrived f).finishEvent.ports.get (.circuit k)).hasNotice .filterJoined = true ∧
        (s.filterArrived f).finishEvent.pathOpen.get k = true := by
  have settles := dormant.finishEvent
  have quiet : (s.filterArrived f).finishEvent.Quiet := State.finishEvent_quiet
  have joins : s.filterArrived f = s.arriveJoining f := by unfold State.filterArrived; rw [joining]
  have record : (s.filterArrived f).finishEvent.filters.get f = (s.filters.get f).inService s.settings.dpHold := by
    rw [settles.filters, joins, State.arriveJoining_filters, State.moveFilter_record, FilterRecord.enter_service]
    rfl
  refine ⟨record, fun k on => ⟨?_, ?_⟩⟩
  · have posted := State.postTo_notice (s.moveFilter f .service id) on .filterJoined
    have follows : Reacts ((s.moveFilter f .service id).postTo (s.filters.get f).circuit .filterJoined)
        (s.filterArrived f).finishEvent := by
      rw [joins]
      exact ((Reacts.refl _).checkLoads f).needPass.finishEvent
    exact follows.notice posted
  · rw [quiet.paths]
    refine State.hasPath_of_serves (f := f) ?_
    rw [record]
    exact FilterRecord.serves_iff.2 ⟨rfl, on⟩

/-- A LEAVING filter that arrives is STANDBY (01 R6). -/
theorem State.leaving_arrives (leaving : (s.filters.get f).state = .leaving) :
    (s.filterArrived f).finishEvent.filters.get f = (s.filters.get f).outside .standby := by
  have moves : s.filterArrived f = (s.moveFilter f .standby id).needPass := by unfold State.filterArrived; rw [leaving]
  rw [dormant.finishEvent.filters, moves, State.needPass_filters, State.moveFilter_record,
    FilterRecord.enter_outside _ (by decide)]
  rfl

/-- A PARKING filter that arrives is OUT_OF_USE (01 R6). -/
theorem State.parking_arrives (parking : (s.filters.get f).state = .parking) :
    (s.filterArrived f).finishEvent.filters.get f = (s.filters.get f).outside .outOfUse := by
  have moves : s.filterArrived f = s.moveFilter f .outOfUse id := by unfold State.filterArrived; rw [parking]
  rw [dormant.finishEvent.filters, moves, State.moveFilter_record, FilterRecord.enter_outside _ (by decide)]
  rfl

end

theorem State.seatTaken_filters (s : State) (f : FilterId) (stop : Stop) : (s.seatTaken f stop).filters = s.filters := rfl

theorem State.seatTaken_settings (s : State) (f : FilterId) (stop : Stop) : (s.seatTaken f stop).settings = s.settings := rfl

/-- Under plant stop an arrival seats the channel, ends the request, and moves the filter by its state. -/
theorem State.arrives_stopped {r : TravelRequest} (request : s.requests.get f = some r)
    (notLine : r.requester ≠ .backwashLine) (stopped : s.stopActive = true) (settling : (s.channels.get f).state = .settling)
    (stop : (s.channels.get f).settleStop = some r.target) : ∃ t, exec (.detentClose f) s = .next t ∧
      (s.updChannel f fun y => { y with detent := true }).Undisturbed t ∧ t.requests.get f = none ∧
      t.channels.get f = (s.channels.get f).arrivedAt r.target ∧
      ((s.filters.get f).state = .joining → t.filters.get f = (s.filters.get f).inService s.settings.dpHold ∧
        ∀ k, (s.filters.get f).circuit = some k →
          (t.ports.get (.circuit k)).hasNotice .filterJoined = true ∧ t.pathOpen.get k = true) ∧
      ((s.filters.get f).state = .leaving → t.filters.get f = (s.filters.get f).outside .standby) ∧
      ((s.filters.get f).state = .parking → t.filters.get f = (s.filters.get f).outside .outOfUse) := by
  have arrives := State.detentClose_stopped request notLine stopped settling stop
  have undisturbed := State.detentClose_undisturbed request
  have dormant : ((s.seatTaken f r.target).filterArrived f).Dormant :=
    .inl ((SameDrive.filterArrived _ f).stopActive.trans stopped)
  have drive := State.filterArrived_drive dormant
  have joining := State.joining_arrives dormant
  have leaving := State.leaving_arrives dormant
  have parking := State.parking_arrives dormant
  rw [State.seatTaken_filters] at joining leaving parking
  rw [State.seatTaken_settings] at joining
  rw [arrives] at undisturbed
  refine ⟨_, congrArg Host.Outcome.next (congrArg State.finishEvent arrives), undisturbed, ?_, ?_, joining, leaving, parking⟩
  · rw [drive.requests]
    exact State.seatTaken_request s f r.target
  · rw [drive.channels, State.seatTaken_channel, Channel.seatedOver_ended]

/-! ## Detent losses at rest (06 R121, 01 R10) -/

/-- A channel whose detent has opened at rest. -/
def Channel.lostAtRest (ch : Channel) : Channel :=
  { ch with detent := false, state := .faulted, position := none, seated := false }

theorem State.detentOpen_atRest (idle : (s.channels.get f).state = .idle) (seated : (s.channels.get f).seated = true)
    (notCleaning : (s.filters.get f).state ≠ .cleaning) :
    s.detentOpen f = (s.withChannel f (s.channels.get f).lostAtRest).filterDetentLoss f := by
  unfold State.detentOpen
  dsimp only
  rw [if_pos seated, idle]
  dsimp only
  unfold State.lossAtRest
  dsimp only
  refine (if_neg notCleaning).trans ?_
  rw [State.updChannel_updChannel]
  rfl

/-- A filter in SERVICE or STANDBY whose seat is lost is in FAULT, and nothing moves it after. -/
theorem State.detentOpen_faults (idle : (s.channels.get f).state = .idle) (seated : (s.channels.get f).seated = true)
    (rests : (s.filters.get f).state = .service ∨ (s.filters.get f).state = .standby) (request : s.requests.get f = none)
    (travel : f ∉ s.travelQueue) (line : ∀ r, s.line.clean = some r → r.filter ≠ f) :
    (s.detentOpen f).finishEvent.filters.get f = (s.filters.get f).inFault .positionLost ∧
      (s.detentOpen f).finishEvent.channels.get f = (s.channels.get f).lostAtRest := by
  have faults : s.detentOpen f = (s.withChannel f (s.channels.get f).lostAtRest).faultFilter f .positionLost := by
    rw [State.detentOpen_atRest idle seated (by rcases rests with e | e <;> rw [e] <;> decide)]
    unfold State.filterDetentLoss
    rw [show (s.withChannel f (s.channels.get f).lostAtRest).filters = s.filters from rfl]
    rcases rests with e | e <;> rw [e]
  obtain ⟨still, record, channels⟩ := State.faultFilter_still (s := s.withChannel f (s.channels.get f).lostAtRest)
    (kind := .positionLost) (by
      show (s.filters.get f).state ≠ .fault
      rcases rests with e | e <;> rw [e] <;> decide) request travel line
  rw [faults]
  obtain ⟨-, record', channel'⟩ := (Reacts.refl _).finishEvent.still f still
  exact ⟨record'.trans record, channel'.trans ((congrArg (Bank.get · f) channels).trans (State.withChannel_get ..))⟩

/-! ## A seat at a stop that is no longer the target (05 R107) -/

/-- The channel that has settled over a stop that is no longer its target, before its fresh start. -/
def Channel.reseated (ch : Channel) (stop : Stop) : Channel :=
  { ch with detent := true, position := some stop.position, seated := true, speed := 0, residue := 0,
            settleTimer := none, settleStop := none, homing := none }

theorem State.detentClose_reseats {r : TravelRequest} {stop : Stop} (request : s.requests.get f = some r)
    (settling : (s.channels.get f).state = .settling) (stopped : (s.channels.get f).settleStop = some stop)
    (retargeted : r.target ≠ stop) :
    s.detentClose f = State.handOut (if s.slots.holds f then
      (s.withChannel f ((s.channels.get f).reseated stop)).startTravel f r.target
    else
      { s.withChannel f { (s.channels.get f).reseated stop with state := .waiting } with
        requests := s.requests.set f (some { r with active := false }), travelQueue := s.travelQueue ++ [f] }) := by
  have settled : ({ ({ s.channels.get f with detent := true } : Channel) with
      position := some stop.position, seated := true, settleTimer := none, settleStop := none, state := .settling, speed := 0,
      residue := 0, homing := none } : Channel) = (s.channels.get f).reseated stop := by
    unfold Channel.reseated
    rw [← settling]
  unfold State.detentClose
  dsimp only
  rw [if_pos settling, State.updChannel_eq]
  refine congrArg State.handOut ?_
  generalize closed : ({ s.channels.get f with detent := true } : Channel) = y at settled
  have stopped' : y.settleStop = some stop := by rw [← closed]; exact stopped
  unfold State.seatConfirmed
  rw [show (s.withChannel f y).requests.get f = some r from request]
  dsimp only
  rw [State.withChannel_get, stopped', Option.getD_some, if_neg retargeted, State.withChannel_updChannel,
    State.withChannel_updChannel]
  have halted : ({ ({ y with position := some stop.position, seated := true, settleTimer := none, settleStop := none }
      : Channel).halt .settling with homing := none } : Channel) = (s.channels.get f).reseated stop := settled
  rw [halted]
  by_cases holds : s.slots.holds f = true
  · rw [if_pos holds]
    exact if_pos holds
  · rw [if_neg holds]
    refine (if_neg holds).trans ?_
    exact congrArg (fun v : State => { v with
        requests := s.requests.set f (some { r with active := false }), travelQueue := s.travelQueue ++ [f] })
      (State.withChannel_updChannel s f ((s.channels.get f).reseated stop) fun ch => { ch with state := .waiting })

end Sys2Proof.Machine
end

section
/-! SUPPORT. Confirmed edges of the home flag: the correction of a count and the end of SEARCH (06 R124, R128). O52. -/

namespace Sys2Proof.Machine

variable {s : State} {f : FilterId}

/-! ## A drift as a remainder (06 R124) -/

/-- The drift of an edge as a remainder of 1,600. -/
def driftRest (d : Dir) (recorded : Nat) : Nat := (edgePlace d + 1600 - recorded) % 1600

/-- The steps by which a correction carries a channel forward. -/
def onwardSteps (d : Dir) (rest : Nat) : Nat :=
  match d with
  | .ccw => if rest ≤ 8 then 0 else 1600 - rest
  | .cw => if rest ≤ 8 then rest else 0

theorem corrected_drift {d : Dir} {recorded : Nat} (low : recorded < 1600) (p : Nat) : corrected p (drift d recorded) = (p + driftRest d recorded) % 1600 := by
  rw [drift_eq d low]
  unfold corrected driftRest
  split <;> omega

section

variable {d : Dir} {recorded : Nat} (low : recorded < 1600) (small : driftRest d recorded ≤ 8 ∨ 1592 ≤ driftRest d recorded)

include low small

theorem drift_small : (drift d recorded).natAbs ≤ 8 := by
  rw [drift_eq d low]
  unfold driftRest at small
  split <;> omega

theorem forward_drift (k : Dir) : (onwardSteps k (driftRest d recorded) : Int) = max (forward k (drift d recorded)) 0 := by
  have bound : driftRest d recorded < 1600 := Nat.mod_lt _ (by decide)
  rw [drift_eq d low]
  change _ = max (forward k (if 800 < driftRest d recorded then ((driftRest d recorded : Nat) : Int) - 1600
    else ((driftRest d recorded : Nat) : Int))) 0
  cases k <;> simp only [onwardSteps, forward] <;> split_ifs <;> omega

end

/-- The steps left to a stop from a count below 1,600, as the statement counts them. -/
theorem Channel.remaining_eq (ch : Channel) {p : Nat} (hp : p < 1600) (k : Stop) : ch.remaining p k =
    match ch.turning with
    | .cw => (200 * k.number + 1600 - p) % 1600
    | .ccw => (p + 1600 - 200 * k.number) % 1600 := by
  have hk : 200 * k.number < 1600 := k.position_lt
  unfold Channel.remaining distance Stop.position Config.revolution
  cases ch.turning <;> simp only [Nat.mod_eq_of_lt hp, Nat.mod_eq_of_lt hk]

theorem Channel.remaining_dir (ch : Channel) {p : Nat} (hp : p < 1600) (k : Stop) : ch.remaining p k =
    match ch.dir with
    | some .ccw => (p + 1600 - 200 * k.number) % 1600
    | _ => (200 * k.number + 1600 - p) % 1600 := by
  rw [Channel.remaining_eq ch hp, Channel.turning]
  rcases ch.dir with _ | _ | _ <;> rfl

theorem onwardSteps_dir (dir : Option Dir) (rest : Nat) :
    (match dir with
    | some .ccw => if rest ≤ 8 then 0 else 1600 - rest
    | _ => if rest ≤ 8 then rest else 0) = onwardSteps (dir.getD .cw) rest := by
  rcases dir with _ | _ | _ <;> rfl

/-! ## The edge that ends SEARCH (06 R128) -/

/-- The channel whose search has found the flag. -/
def Channel.found (ch : Channel) (steps : Nat) : Channel :=
  { ch with position := some ((1595 + steps) % 1600), homing := some .approach, search := 0 }

/-- The channel that has found the flag with the stop behind it. -/
def Channel.foundPast (ch : Channel) (steps : Nat) : Channel :=
  { ch.found steps with homing := none, speed := 0, residue := 0 }

theorem State.takeRise_found {r : TravelRequest} (request : s.requests.get f = some r) (e : EdgeRecord)
    (takes : (s.channels.get f).state.takesEdge = true) (search : (s.channels.get f).homing = some .search) :
    s.takeRise f e = s.homeFound f e := by
  unfold State.takeRise
  simp [request, takes, search]

theorem State.homeFound_short {e : EdgeRecord} (h : e.steps < 5) :
    s.homeFound f e = s.withChannel f ((s.channels.get f).found e.steps) := by
  unfold State.homeFound
  dsimp only
  rw [if_pos h]
  rfl

theorem State.homeFound_there {e : EdgeRecord} (h : e.steps = 5) (opened : (s.channels.get f).detent = false)
    (noHandOut : s.NoHandOut) : s.homeFound f e =
      s.withChannel f (((s.channels.get f).found 5).settleOver .closed s.settings.detentSettle) := by
  unfold State.homeFound
  dsimp only
  rw [if_neg (by omega), if_pos h, State.updChannel_eq]
  have channel : ({ s.channels.get f with
      position := some ((1595 + e.steps) % Config.revolution), homing := some .approach, search := 0 } : Channel) =
      (s.channels.get f).found 5 := by rw [h]; rfl
  rw [channel, State.enterSettling_open (by rw [State.withChannel_get]; exact opened), State.withChannel_get,
    State.withChannel_withChannel]
  exact State.NoHandOut.handOut noHandOut

theorem State.homeFound_past {e : EdgeRecord} (h : 5 < e.steps) : s.homeFound f e =
    if (s.channels.get f).state = .moving then
      ((s.withChannel f ((s.channels.get f).foundPast e.steps)).startTravel f .closed).handOut
    else s.withChannel f ((s.channels.get f).foundPast e.steps) := by
  unfold State.homeFound
  dsimp only
  rw [if_neg (by omega), if_neg (by omega), State.updChannel_updChannel]
  rfl

/-- Past stop 0 the way back is counterclockwise (05 R99). -/
theorem Channel.foundPast_way {steps : Nat} (past : 5 < steps) (near : steps < 805) :
    shorterWay ((1595 + steps) % 1600) Stop.closed.position = .ccw := by
  rw [shorterWay_eq (Nat.mod_lt _ (by decide)), if_neg]
  simp only [Stop.position, Stop.number]
  omega

/-! ## Starts with the slot in hand -/

/-- A channel that begins an ordinary travel (05 R101). -/
theorem State.startTravel_begins {target : Stop} {p : Nat} {d : Dir} (position : (s.channels.get f).position = some p)
    (chosen : (s.channels.get f).chooseDir p target.position = some d) (mark : (s.channels.get f).overrun = false)
    (dir : (s.channels.get f).dir = none ∨ (s.channels.get f).dir = some d) (free : s.pauseCondition = false) :
    s.startTravel f target = s.withChannel f ((s.channels.get f).begin d (s.channels.get f).profile.startCreep) :=
  State.startTravel_only (by rw [free]; exact Channel.start_begins position chosen mark dir)

/-- A channel that dwells before it turns the other way (05 R100). -/
theorem State.startTravel_dwells {target : Stop} {p : Nat} {d : Dir} (position : (s.channels.get f).position = some p)
    (chosen : (s.channels.get f).chooseDir p target.position = some d) (turned : (s.channels.get f).dir.isSome = true)
    (dir : (s.channels.get f).dir ≠ some d) :
    s.startTravel f target = s.withChannel f ((s.channels.get f).halt .dwell) :=
  State.startTravel_only (Channel.start_dwells position chosen turned dir _)

end Sys2Proof.Machine
end

section
/-! O52: seats and home edges. -/

namespace Sys2Proof.Machine

variable {s : State} {f : FilterId}

/-- A channel state in which a confirmed edge acts, as the statements list them. -/
theorem ChannelState.takesEdge_of {st : ChannelState} (h : st ∈ [ChannelState.moving, .paused, .dwell, .settling]) :
    st.takesEdge = true := by
  cases st <;> simp at h <;> rfl

theorem Channel.calm_none {ch : Channel} (h : ch.edge = none) (rising : Bool) : ch.CalmAt rising := fun back => by
  rw [h] at back
  cases back

theorem Channel.calm_same {ch : Channel} {rising : Bool} (h : ∀ e, ch.edge = some e → e.rising = rising) :
    ch.CalmAt rising := fun back => by
  cases he : ch.edge with
  | none => rw [he] at back; cases back
  | some e => rw [he] at back; simp [h e he] at back

/-- An edge that would not end the homing phase is not held for it. -/
theorem Channel.edgeHeld_false {ch : Channel} {e : EdgeRecord} (he : ch.edge = some e)
    (phase : ch.homing ≠ some (if e.rising then .search else .clear)) : ch.edgeHeld = false := by
  unfold Channel.edgeHeld
  rw [he]
  split
  · next x found clear =>
    cases found
    cases rise : e.rising with
    | true => rfl
    | false => rw [rise] at phase; exact absurd clear phase
  · next x found search =>
    cases found
    cases rise : e.rising with
    | true => rw [rise] at phase; exact absurd search phase
    | false => rfl
  · rfl

/-- A record whose edge would not end the homing phase, or whose search goes on. -/
theorem Channel.calm_of {ch : Channel} {rising : Bool}
    (h : ∀ e, ch.edge = some e → e.rising = !rising → ch.homing = some (if rising then .clear else .search) →
      ch.search < 1700) : ch.CalmAt rising := fun back => by
  cases he : ch.edge with
  | none => rw [he] at back; cases back
  | some e =>
    rw [he] at back
    have other : e.rising = !rising := by cases rising <;> simpa using back
    by_cases phase : ch.homing = some (if rising then .clear else .search)
    · exact .inr (h e he other phase)
    · refine .inl (Channel.edgeHeld_false he ?_)
      rw [other]
      cases rising <;> exact phase

theorem Channel.flagGoes_same {ch : Channel} {rising : Bool} (h : ∀ e, ch.edge = some e → e.rising = rising) :
    ch.flagGoes rising = ch := by
  unfold Channel.flagGoes
  rw [if_neg]
  cases he : ch.edge with
  | none => simp
  | some e => simp [h e he]

theorem Channel.rawEdge_none {ch : Channel} {rising : Bool} (h : ch.opensEdge rising = false) : ch.rawEdge rising = ch := by
  unfold Channel.rawEdge
  rw [if_neg (by simp [h])]

/-- A raw edge that opens a record replaces the one that stands. -/
theorem Channel.rawEdge_opens {ch : Channel} {rising : Bool} (h : ch.opensEdge rising = true) :
    (ch.flagGoes rising).rawEdge rising =
      { ch with edge := some { position := ch.position, dir := ch.turning, rising := rising, steps := 0 } } := by
  have opens : (ch.flagGoes rising).opensEdge rising = true := by
    rw [← h]
    unfold Channel.flagGoes
    split <;> rfl
  unfold Channel.rawEdge
  rw [if_pos opens]
  unfold Channel.flagGoes
  split <;> rfl

/-- A retargeted settle whose channel holds its slot starts at once towards its target (05 R107). -/
theorem State.reseated_starts {r : TravelRequest} {stop : Stop} {d : Dir} (request : s.requests.get f = some r)
    (settles : (s.channels.get f).state = .settling) (stopped : (s.channels.get f).settleStop = some stop)
    (retargeted : r.target ≠ stop) (holds : s.slots.holds f = true) (free : s.pauseCondition = false)
    (mark : (s.channels.get f).overrun = false) (noHandOut : s.NoHandOut)
    (way : (d = .cw ∧ (200 * r.target.number + 1600 - 200 * stop.number) % 1600 ≤ 800 ∧ (s.channels.get f).cwTorque = false) ∨
      (d = .ccw ∧ 800 < (200 * r.target.number + 1600 - 200 * stop.number) % 1600 ∧
        (s.channels.get f).ccwTorque = false)) :
    ((s.channels.get f).dir = none ∨ (s.channels.get f).dir = some d → s.detentClose f =
      s.withChannel f (((s.channels.get f).reseated stop).begin d (s.channels.get f).profile.startCreep)) ∧
    ((s.channels.get f).dir.isSome = true → (s.channels.get f).dir ≠ some d → s.detentClose f =
      s.withChannel f (((s.channels.get f).reseated stop).halt .dwell)) := by
  have chosen : ((s.channels.get f).reseated stop).chooseDir stop.position r.target.position = some d := by
    refine Channel.chooseDir_free ?_ ?_
    · rw [shorterWay_eq stop.position_lt]
      unfold Stop.position
      rcases way with ⟨e, near, -⟩ | ⟨e, far, -⟩
      · rw [if_pos near, e]
      · rw [if_neg (by omega), e]
    · rcases way with ⟨e, -, torque⟩ | ⟨e, -, torque⟩ <;> rw [e] <;> exact torque
  rw [State.detentClose_reseats request settles stopped retargeted, if_pos holds]
  have channel := s.withChannel_get f ((s.channels.get f).reseated stop)
  refine ⟨fun dir => ?_, fun turned dir => ?_⟩
  · rw [State.startTravel_begins (s := s.withChannel f _) (by rw [channel]; rfl) (by rw [channel]; exact chosen)
      (by rw [channel]; exact mark) (by rw [channel]; exact dir) free, channel, State.withChannel_withChannel]
    exact State.NoHandOut.handOut noHandOut
  · rw [State.startTravel_dwells (s := s.withChannel f _) (by rw [channel]; rfl) (by rw [channel]; exact chosen)
      (by rw [channel]; exact turned) (by rw [channel]; exact dir), channel, State.withChannel_withChannel]
    exact State.NoHandOut.handOut noHandOut

/-- A retargeted settle whose channel holds no slot waits for one (05 R107). -/
theorem State.reseated_waits {r : TravelRequest} {stop : Stop} (request : s.requests.get f = some r)
    (settles : (s.channels.get f).state = .settling) (stopped : (s.channels.get f).settleStop = some stop)
    (retargeted : r.target ≠ stop) (holds : s.slots.holds f = false) (held : s.slots.hasFree = false ∨ s.pauseCondition = true) :
    s.detentClose f = { s.withChannel f { (s.channels.get f).reseated stop with state := .waiting } with
      requests := s.requests.set f (some { r with active := false }), travelQueue := s.travelQueue ++ [f] } := by
  rw [State.detentClose_reseats request settles stopped retargeted, if_neg (by simp [holds])]
  refine State.NoHandOut.handOut ?_
  rcases held with h | h
  · exact .inl h
  · exact .inr (.inr h)

theorem Channel.discard_none {ch : Channel} (h : ch.edge = none) : { ch with edge := none } = ch := by
  rw [← h]

/-- A failed hold, or the raw edge back where it opens no record of its own, discards the record (06 R123). -/
theorem State.homeEdgeRaw_back {rising : Bool} {e : EdgeRecord} (edge : (s.channels.get f).edge = some e)
    (back : e.rising = !rising) (calm : (s.channels.get f).CalmAt rising)
    (opens : (s.channels.get f).opensEdge rising = false) :
    s.homeEdgeRaw f rising = s.withChannel f { s.channels.get f with edge := none } := by
  have goes : (s.channels.get f).flagGoes rising = { s.channels.get f with edge := none } := by
    unfold Channel.flagGoes
    rw [if_pos (by rw [edge]; cases rising <;> simp [back])]
  rw [State.homeEdgeRaw_only calm, goes]
  exact congrArg (s.withChannel f) (Channel.rawEdge_none opens)

/-! ## A confirmed rise with its record -/

/-- A confirmed rise is taken from its record once the level is taken and the record discarded (06 R123). -/
theorem State.homeEdgeConfirmed_takes {e : EdgeRecord} (edge : (s.channels.get f).edge = some e) (rise : e.rising = true) :
    s.homeEdgeConfirmed f true = (s.withChannel f ((s.channels.get f).confirmed true)).takeRise f e :=
  State.homeEdgeConfirmed_rise edge rise

section

variable {r : TravelRequest} {e : EdgeRecord} (request : s.requests.get f = some r) (edge : (s.channels.get f).edge = some e)
  (rise : e.rising = true) (takes : (s.channels.get f).state.takesEdge = true)

include request edge rise takes

/-- A confirmed rise of an ordinary travel corrects the count by a small drift, and settles a channel that the correction
carries to its target (06 R124). -/
theorem State.rise_corrects {recorded p : Nat} (ordinary : (s.channels.get f).homing = none)
    (count : e.position = some recorded) (low : recorded < 1600) (position : (s.channels.get f).position = some p)
    (small : driftRest e.dir recorded ≤ 8 ∨ 1592 ≤ driftRest e.dir recorded) :
    let y := { (s.channels.get f).confirmed true with position := some ((p + driftRest e.dir recorded) % 1600) }
    let onward := onwardSteps (s.channels.get f).turning (driftRest e.dir recorded)
    let left := (s.channels.get f).remaining p r.target
    ((s.channels.get f).state ≠ .moving ∨ onward = 0 ∨ onward < left → s.homeEdgeConfirmed f true = s.withChannel f y) ∧
    ((s.channels.get f).state = .moving → 0 < onward → left ≤ onward → (s.channels.get f).detent = false → s.NoHandOut →
      s.homeEdgeConfirmed f true = s.withChannel f (y.settleOver r.target s.settings.detentSettle)) := by
  intro y onward left
  have channel := s.withChannel_get f ((s.channels.get f).confirmed true)
  have forwards : (onward : Int) = max (forward (s.channels.get f).turning (drift e.dir recorded)) 0 :=
    forward_drift low small _
  have corrects : ({ (s.channels.get f).confirmed true with position := some (corrected p (drift e.dir recorded)) } : Channel) =
      y := by rw [corrected_drift low]
  have small' := drift_small low small
  rw [State.homeEdgeConfirmed_takes edge rise, State.takeRise_resync (s := s.withChannel f _) request
    (by rw [channel]; exact takes) (by rw [channel]; exact ordinary)]
  refine ⟨fun short => ?_, fun moving onto reached opened noHandOut => ?_⟩
  · rw [State.resync_corrects (s := s.withChannel f _) count (by rw [channel]; exact position) small' ?_, channel,
      State.withChannel_withChannel, corrects]
    rw [channel]
    rintro ⟨moving, onto, reached⟩
    have onto' : 0 < forward (s.channels.get f).turning (drift e.dir recorded) := onto
    have reached' : (left : Int) ≤ forward (s.channels.get f).turning (drift e.dir recorded) := reached
    rcases short with h | h | h
    · exact h moving
    · omega
    · omega
  · rw [State.resync_settles (s := s.withChannel f _) count (by rw [channel]; exact position) small' ?_
      (by rw [channel]; exact opened) noHandOut, channel, State.withChannel_withChannel, corrects]
    · rfl
    · rw [channel]
      have onto' : 0 < forward (s.channels.get f).turning (drift e.dir recorded) := by omega
      have reached' : (left : Int) ≤ forward (s.channels.get f).turning (drift e.dir recorded) := by omega
      exact ⟨moving, onto', reached'⟩

/-- A confirmed rise that ends SEARCH (06 R128). -/
theorem State.rise_found (search : (s.channels.get f).homing = some .search) :
    s.homeEdgeConfirmed f true = (s.withChannel f ((s.channels.get f).confirmed true)).homeFound f e := by
  have channel := s.withChannel_get f ((s.channels.get f).confirmed true)
  rw [State.homeEdgeConfirmed_takes edge rise]
  exact State.takeRise_found (s := s.withChannel f _) request e (by rw [channel]; exact takes) (by rw [channel]; exact search)

end

/-- The end of a SEARCH past stop 0 makes a start back to it (06 R128). -/
theorem State.homeFound_starts {e : EdgeRecord} (past : 5 < e.steps) (near : e.steps < 805)
    (moving : (s.channels.get f).state = .moving) (dir : (s.channels.get f).dir = some .cw) (noHandOut : s.NoHandOut) :
    ((s.channels.get f).ccwTorque = false →
      s.homeFound f e = s.withChannel f (((s.channels.get f).foundPast e.steps).halt .dwell)) ∧
    ((s.channels.get f).ccwTorque = true → (s.channels.get f).cwTorque = false → (s.channels.get f).overrun = false →
      s.pauseCondition = false → s.homeFound f e = s.withChannel f
        (((s.channels.get f).foundPast e.steps).begin .cw (s.channels.get f).profile.startCreep)) := by
  have channel := s.withChannel_get f ((s.channels.get f).foundPast e.steps)
  have way := Channel.foundPast_way past near
  rw [State.homeFound_past past, if_pos moving]
  refine ⟨fun free => ?_, fun blocked free mark go => ?_⟩
  · rw [State.startTravel_dwells (s := s.withChannel f _) (by rw [channel]; rfl)
      (by rw [channel]; exact Channel.chooseDir_free way free) (by rw [channel]; exact (congrArg Option.isSome dir).trans rfl)
      (by rw [channel]; exact fun k => by cases dir.symm.trans k), channel, State.withChannel_withChannel]
    exact State.NoHandOut.handOut noHandOut
  · rw [State.startTravel_begins (s := s.withChannel f _) (by rw [channel]; rfl)
      (by rw [channel]; exact Channel.chooseDir_blocked way blocked free) (by rw [channel]; exact mark)
      (by rw [channel]; exact .inr dir) go, channel, State.withChannel_withChannel]
    exact State.NoHandOut.handOut noHandOut

/-! ## Contacts that set a level alone -/

theorem State.detentOpen_level (still : (s.channels.get f).seated = false ∨
    (s.channels.get f).state ∈ [ChannelState.unreferenced, .settling, .faulted]) :
    s.detentOpen f = s.withChannel f { s.channels.get f with detent := false } := by
  unfold State.detentOpen
  dsimp only
  split
  · next seated =>
    have rests := still.resolve_left (by simp [seated])
    split
    case h_1 e | h_2 e | h_3 e | h_4 e | h_5 e => rw [e] at rests; simp at rests
    all_goals rfl
  · rfl

theorem State.torqueChange_level (still : (s.channels.get f).state ≠ .moving) (d : Dir) :
    s.torqueChange f d true = s.withChannel f ((s.channels.get f).setTorque d true) := by
  unfold State.torqueChange
  dsimp only
  rw [if_neg (by simp [still])]
  rfl

/-- Settles O52: contacts and edges, clause by clause, from what each event does to the channel. -/
theorem seatsAndHomeEdgesAreTaken : Obligations.SeatsAndHomeEdgesAreTaken := by
  unfold Obligations.SeatsAndHomeEdgesAreTaken
  intro s f ch x only settling begun
  refine ⟨fun r request notLine stopped settles stop => ?_, fun idle seated rests request travel line => ?_,
    fun quiet => ⟨?_, fun idle seated out => ?_, fun away => ?_,
      fun still => ?_, fun still => ?_, fun moving calm d dir => ?_, fun still rising => ?_, fun clear => ?_,
      fun phase falling => ?_, fun none => ?_, fun takes clear => ?_, fun phase calm => ?_,
      ?_, fun rising edge calm => ?_, fun none => ?_⟩⟩
  case refine_1 =>
    exact State.arrives_stopped request notLine stopped settles stop
  case refine_2 =>
    obtain ⟨record, channel⟩ := State.detentOpen_faults idle seated rests request travel line
    exact ⟨_, rfl, record, channel⟩
  case refine_3 =>
    intro r stop request settles stopped retargeted y clockwise
    refine ⟨fun holds free mark noHandOut d way => ?_, fun holds held => ?_⟩
    · obtain ⟨begins, dwells⟩ :=
        State.reseated_starts request settles stopped retargeted holds free mark noHandOut way
      exact ⟨fun dir => exec_only quiet rfl (begins dir), fun turned dir => exec_only quiet rfl (dwells turned dir)⟩
    · exact exec_quiet rfl (State.reseated_waits request settles stopped retargeted holds held) (quiet.of_eq rfl rfl rfl)
  case refine_4 =>
    refine exec_only quiet rfl ((State.detentOpen_atRest idle seated ?_).trans ?_)
    · rcases out with e | e <;> exact fun k => by rw [e] at k; cases k
    · unfold State.filterDetentLoss
      rw [show (s.withChannel f (s.channels.get f).lostAtRest).filters = s.filters from rfl]
      rcases out with e | e <;> rw [show (s.filters.get f).state = _ from e] <;> rfl
  case refine_5 =>
    refine exec_only quiet rfl ?_
    unfold State.detentClose
    dsimp only
    rw [if_neg away]
    rfl
  case refine_6 => exact exec_only quiet rfl (State.detentOpen_level still)
  case refine_7 => exact ⟨exec_only quiet rfl (State.torqueChange_level still .cw),
    exec_only quiet rfl (State.torqueChange_level still .ccw)⟩
  case refine_8 =>
    have goesOn : (s.channels.get f).CalmAt true :=
      Channel.calm_of fun e he fall phase => (calm e he phase).resolve_left (by simp [fall])
    have opens : (s.channels.get f).opensEdge true = true := beq_iff_eq.2 moving
    have turns : (s.channels.get f).turning = d := by rw [Channel.turning, show (s.channels.get f).dir = some d from dir]; rfl
    refine exec_only quiet rfl ?_
    rw [State.homeEdgeRaw_only goesOn, Channel.rawEdge_opens opens, turns]
  case refine_9 =>
    have opens : (s.channels.get f).opensEdge true = false := beq_false_of_ne still
    refine exec_nothing quiet rfl ?_
    rw [State.homeEdgeRaw_only (Channel.calm_same rising), Channel.flagGoes_same rising, Channel.rawEdge_none opens,
      State.withChannel_self]
  case refine_10 =>
    have goesOn : (s.channels.get f).CalmAt false := Channel.calm_of fun e _ _ phase => by
      rw [show (s.channels.get f).homing = some .clear from clear] at phase
      cases phase
    have opens : (s.channels.get f).opensEdge false = true := beq_iff_eq.2 clear
    refine exec_only quiet rfl ?_
    rw [State.homeEdgeRaw_only goesOn, Channel.rawEdge_opens opens]
    rfl
  case refine_11 =>
    have opens : (s.channels.get f).opensEdge false = false := beq_false_of_ne phase
    refine exec_nothing quiet rfl ?_
    rw [State.homeEdgeRaw_only (Channel.calm_same falling), Channel.flagGoes_same falling, Channel.rawEdge_none opens,
      State.withChannel_self]
  case refine_12 =>
    refine exec_only quiet rfl ?_
    rw [State.homeEdgeConfirmed_level (Channel.calm_none none true) (fun e he => by cases none.symm.trans he)]
    exact congrArg (s.withChannel f) (by unfold Channel.confirmed; rw [none])
  case refine_13 =>
    refine exec_only quiet rfl ?_
    have calm : (s.channels.get f).CalmAt false := Channel.calm_of fun e _ _ phase => by
      rw [show (s.channels.get f).homing = some .clear from clear] at phase
      cases phase
    have channel := s.withChannel_get f ((s.channels.get f).confirmed false)
    rw [State.homeEdgeConfirmed_fall calm, State.takeFall_clears (by rw [channel]; exact ChannelState.takesEdge_of takes)
      (by rw [channel]; exact clear), channel, State.withChannel_withChannel]
    rfl
  case refine_14 =>
    refine exec_only quiet rfl ?_
    rw [State.homeEdgeConfirmed_fall (Channel.calm_of fun e he rise search => calm e he search rise)]
    refine State.takeFall_none ?_
    rw [State.withChannel_get]
    exact phase
  case refine_15 =>
    intro r e request edge
    refine ⟨fun recorded p rise ordinary takes he low hp hp' => ?_, fun takes rise search => ?_,
        fun rise approach => ?_, fun clear calm => ?_⟩
    · intro place drift small y onward left
      have turns : onward = onwardSteps (s.channels.get f).turning (driftRest e.dir recorded) := onwardSteps_dir _ _
      have remains : left = (s.channels.get f).remaining p r.target := (Channel.remaining_dir _ hp' _).symm
      obtain ⟨short, settles⟩ :=
        State.rise_corrects request edge rise (ChannelState.takesEdge_of takes) ordinary he low hp small
      rw [← turns, ← remains] at short settles
      exact ⟨fun h => exec_only quiet rfl (short h),
        fun moving _ onto reached opened noHandOut => exec_only quiet rfl (settles moving onto reached opened noHandOut)⟩
    · have found := State.rise_found request edge rise (ChannelState.takesEdge_of takes) search
      have channel := s.withChannel_get f ((s.channels.get f).confirmed true)
      refine ⟨fun short => ?_, fun there opened noHandOut => ?_, fun past near => ?_⟩
      · refine exec_only quiet rfl (found.trans ?_)
        rw [State.homeFound_short short, channel, State.withChannel_withChannel]
        rfl
      · refine exec_only quiet rfl (found.trans ?_)
        rw [State.homeFound_there (s := s.withChannel f _) there (by rw [channel]; exact opened) noHandOut, channel,
          State.withChannel_withChannel, there]
        rfl
      · intro z
        refine ⟨fun still => ?_, fun moving dir noHandOut => ?_⟩
        · refine exec_only quiet rfl (found.trans ?_)
          rw [State.homeFound_past past, if_neg (by rw [channel]; exact still), channel, State.withChannel_withChannel]
          rfl
        · obtain ⟨dwells, begins⟩ := State.homeFound_starts (s := s.withChannel f ((s.channels.get f).confirmed true)) past near
            (by rw [channel]; exact moving) (by rw [channel]; exact dir) noHandOut
          rw [channel, State.withChannel_withChannel] at dwells begins
          exact ⟨fun free => exec_only quiet rfl (found.trans (dwells free)),
            fun blocked free mark go => exec_only quiet rfl (found.trans (begins blocked free mark go))⟩
    · refine exec_only quiet rfl ?_
      rw [State.homeEdgeConfirmed_takes edge rise]
      refine State.takeRise_none (.inr ?_)
      rw [State.withChannel_get]
      exact approach
    · cases rise : e.rising with
      | true =>
        refine exec_only quiet rfl ?_
        rw [State.homeEdgeConfirmed_takes edge rise]
        refine State.takeRise_none (.inl ?_)
        rw [State.withChannel_get]
        exact clear
      | false =>
        have slow := calm.resolve_left (by simp [rise])
        exact exec_only quiet rfl (State.homeEdgeConfirmed_level (fun _ => .inr slow)
          fun k hk => by cases edge.symm.trans hk; exact rise)
  case refine_16 =>
    obtain ⟨e, he, same⟩ := edge
    have calm' : (s.channels.get f).edgeHeld = false ∨ (s.channels.get f).search < 1700 := by
      rcases calm with slow | phase
      · exact .inr slow
      · exact .inl (Channel.edgeHeld_false he (by rw [same]; exact phase))
    have opens (phase : rising = true → ch.homing ≠ some .clear) (still : rising = false → ch.state ≠ .moving) :
        (s.channels.get f).opensEdge (!rising) = false := by
      cases rising with
      | true => exact beq_false_of_ne (phase rfl)
      | false => exact beq_false_of_ne (still rfl)
    refine ⟨exec_only quiet rfl (State.homeEdgeFails_only calm'), fun phase still => ?_⟩
    exact exec_only quiet rfl (State.homeEdgeRaw_back he (by simp [same]) (fun _ => calm') (opens phase still))
  case refine_17 =>
    have free : (s.channels.get f).edgeHeld = false := by
      unfold Channel.edgeHeld
      rw [show (s.channels.get f).edge = Option.none from none]
    refine exec_nothing quiet rfl ?_
    rw [State.homeEdgeFails_only (.inl free), Channel.discard_none none, State.withChannel_self]

end Sys2Proof.Machine
end

section
/-! O58: an interval that parks a filter is followed by a pass where an entry of the queue has become blocked by the floor. A
pass takes the mark of every cover of a circuit with nothing to cover, whatever the filter's state, so that a filter that is
PARKING with an assignment and a cover mark does not keep its record. (`State.AssignmentLaw` excludes such a filter.) -/

namespace Sys2Proof.Machine

open Sys2Proof.Tests

/-- A plant RUNNING whose filter 4 has come to the PARK stop with an assignment to circuit C and a cover mark left in its
record, and whose entry for filter 1 has become blocked by the floor of circuit A. -/
def parkedCover : State :=
  { plant with
    filters := plant.filters.set .f4 { inState .parking with circuit := some .C, cover := true }
    channels := plant.channels.set .f4 { restingAt .park with state := .moving, speed := 100 }
    requests := plant.requests.set .f4 (some { target := .park, requester := .maintenance, active := true })
    circuits := plant.circuits.set .A (dosing 2 2)
    queue := [{ filter := .f1, reasons := {}, eligibility := .eligible }] }

theorem parkedCover_quiet : parkedCover.Quiet := (quiet_iff _).2 (by decide)

/-- The pass that ends the event takes the cover mark of the parked filter. -/
theorem parkedCover_uncovered :
    after (.profileInterval .f4) parkedCover (fun t => !(t.filters.get .f4).cover) = true := by decide +kernel

/-- Refutes O58: the last clause on the travels of a PARKING filter fails at `parkedCover`. -/
theorem not_intervalsUnderSurgeAndOverrun : ¬ Obligations.IntervalsUnderSurgeAndOverrun := by
  unfold Obligations.IntervalsUnderSurgeAndOverrun
  intro holds
  obtain ⟨ordinary, -⟩ := holds parkedCover .f4 { target := .park, requester := .maintenance, active := true }
    parkedCover_quiet rfl rfl
  obtain ⟨-, -, parks⟩ := ordinary 1400 .cw rfl rfl rfl (by decide)
  obtain ⟨t, step, -, -, -, record⟩ := parks 0 rfl rfl rfl rfl rfl (.inl rfl) (by decide) (fun x clean => by cases clean) rfl
    (.inl rfl)
  have uncovered := parkedCover_uncovered
  unfold after at uncovered
  rw [step] at uncovered
  dsimp only at uncovered
  rw [record] at uncovered
  exact absurd uncovered (by decide)

end Sys2Proof.Machine
end

section
/-! SUPPORT. Filing and merging entries of the Backwash Queue (03 R47 to R49), entry by entry. -/

namespace Sys2Proof.Machine

variable {s : State} {f : FilterId}

/-- The entry that is found for a filter, where the queue holds one and no other for it. -/
theorem find_entry {q : List QueueEntry} {e : QueueEntry} (mem : e ∈ q) (same : e.filter = f)
    (only : ∀ x ∈ q, x.filter = f → x = e) : q.find? (fun x => x.filter == f) = some e := by
  cases found : q.find? (fun x => x.filter == f) with
  | none => exact absurd same (by simpa using List.find?_eq_none.1 found e mem)
  | some x =>
    have named : x.filter = f := by simpa using List.find?_some found
    rw [only x (List.mem_of_find?_eq_some found) named]

theorem State.takeEligibility_queue (s : State) (f : FilterId) (v : Eligibility) :
    (s.takeEligibility f v).queue = s.queue := by
  cases v with
  | needsStop =>
    unfold State.takeEligibility
    dsimp only
    rw [State.postTo_frame]
  | floorBlocked | eligible | inTransit => rfl

/-- A filter without an entry is filed at the last place of its group (03 R48). -/
theorem State.fileEntry_new {rs : Reasons} (may : (s.filters.get f).state.mayQueue = true) (none : s.entryOf f = none) :
    (s.fileEntry f rs).queue =
      insertEntry s.queue { filter := f, reasons := rs, eligibility := s.eligibilityOf f } := by
  unfold State.fileEntry
  rw [if_pos may, none]
  exact State.takeEligibility_queue _ f _

/-- A filter with an entry has the reasons merged into it, in its place or at the last place of its new group (03 R49). -/
theorem State.fileEntry_merge {rs : Reasons} {x : QueueEntry} (may : (s.filters.get f).state.mayQueue = true)
    (some : s.entryOf f = some x) :
    (s.fileEntry f rs).queue = insertEntry (removeEntry s.queue f) { x with reasons := x.reasons.union rs } ∨
      (s.fileEntry f rs).queue = replaceEntry s.queue { x with reasons := x.reasons.union rs } := by
  unfold State.fileEntry
  rw [if_pos may, some]
  dsimp only
  split
  · exact .inl rfl
  · exact .inr rfl

theorem insertEntry_found {q : List QueueEntry} {e : QueueEntry} (same : e.filter = f) (fresh : ∀ x ∈ q, x.filter ≠ f) :
    (insertEntry q e).find? (fun x => x.filter == f) = some e := by
  have perm := insertEntry_perm q e
  refine find_entry (perm.mem_iff.2 List.mem_cons_self) same fun x mem named => ?_
  rcases List.mem_cons.1 (perm.mem_iff.1 mem) with here | there
  · exact here
  · exact absurd named (fresh x there)

theorem replaceEntry_found {q : List QueueEntry} {e x : QueueEntry} (mem : x ∈ q) (named : x.filter = f)
    (same : e.filter = f) : (replaceEntry q e).find? (fun x => x.filter == f) = some e := by
  have replaced : ∀ y ∈ replaceEntry q e, y.filter = f → y = e := fun y there named => by
    obtain ⟨z, -, rfl⟩ := List.mem_map.1 there
    split at named
    · next hit => rw [if_pos hit]
    · next miss => exact absurd (beq_iff_eq.2 (named.trans same.symm)) miss
  refine find_entry (List.mem_map.2 ⟨x, mem, if_pos (beq_iff_eq.2 (named.trans same.symm))⟩) same replaced

/-- A filing leaves the filter with an entry that has the filed reasons, and those it had. -/
theorem State.fileEntry_entry (rs : Reasons) (may : (s.filters.get f).state.mayQueue = true) :
    ∃ e, (s.fileEntry f rs).entryOf f = some e ∧
      e.reasons = match s.entryOf f with
        | none => rs
        | some x => x.reasons.union rs := by
  cases old : s.entryOf f with
  | none =>
    refine ⟨{ filter := f, reasons := rs, eligibility := s.eligibilityOf f }, ?_, rfl⟩
    rw [State.entryOf, State.fileEntry_new may old]
    exact insertEntry_found rfl (State.entryOf_none old)
  | some x =>
    obtain ⟨mem, named⟩ := State.entryOf_some old
    refine ⟨{ x with reasons := x.reasons.union rs }, ?_, rfl⟩
    unfold State.entryOf
    rcases State.fileEntry_merge (rs := rs) may old with moved | merged
    · rw [moved]
      exact insertEntry_found named fun y there => (mem_removeEntry there).2
    · rw [merged]
      exact replaceEntry_found mem named named

/-- Filing keeps one entry a filter. -/
theorem State.fileEntry_distinct (s : State) (f : FilterId) (rs : Reasons)
    (distinct : (s.queue.map QueueEntry.filter).Nodup) : ((s.fileEntry f rs).queue.map QueueEntry.filter).Nodup := by
  have inserted {q : List QueueEntry} {e : QueueEntry} (once : (q.map QueueEntry.filter).Nodup)
      (fresh : ∀ x ∈ q, x.filter ≠ e.filter) : ((insertEntry q e).map QueueEntry.filter).Nodup := by
    refine ((insertEntry_perm q e).map _).nodup_iff.2 (List.nodup_cons.2 ⟨fun mem => ?_, once⟩)
    obtain ⟨x, there, same⟩ := List.mem_map.1 mem
    exact fresh x there same
  by_cases may : (s.filters.get f).state.mayQueue = true
  · cases old : s.entryOf f with
    | none =>
      rw [State.fileEntry_new may old]
      exact inserted distinct (State.entryOf_none old)
    | some x =>
      obtain ⟨-, named⟩ := State.entryOf_some old
      rcases State.fileEntry_merge (rs := rs) may old with moved | merged
      · rw [moved]
        exact inserted (removeEntry_nodup f distinct) fun y there same => (mem_removeEntry there).2 (same.trans named)
      · rw [merged, map_replaceEntry]
        exact distinct
  · unfold State.fileEntry
    rw [if_neg may]
    exact distinct

/-- In an ordered queue the urgent entries are the first. -/
theorem takeWhile_urgent {q : List QueueEntry} (order : q.Pairwise fun a b => b.urgent = true → a.urgent = true) :
    q.takeWhile QueueEntry.urgent = q.filter QueueEntry.urgent ∧
      q.dropWhile QueueEntry.urgent = q.filter fun e => !e.urgent := by
  induction q with
  | nil => exact ⟨rfl, rfl⟩
  | cons x q ih =>
    obtain ⟨first, rest⟩ := List.pairwise_cons.1 order
    obtain ⟨take, drop⟩ := ih rest
    cases urgent : x.urgent with
    | true => simp [urgent, take, drop]
    | false =>
      have later : ∀ y ∈ q, y.urgent = false := fun y mem => by
        cases k : y.urgent with
        | false => rfl
        | true => rw [first y mem k] at urgent; cases urgent
      have none : q.filter QueueEntry.urgent = [] := List.filter_eq_nil_iff.2 fun y mem => by simp [later y mem]
      have all : q.filter (fun e => !e.urgent) = q := List.filter_eq_self.2 fun y mem => by simp [later y mem]
      simp [urgent, none, all]

/-- The entries of an ordered queue with one more put at the last place of its group. -/
theorem insertEntry_entries {q : List QueueEntry} (order : q.Pairwise fun a b => b.urgent = true → a.urgent = true)
    (e : QueueEntry) : (insertEntry q e).map (fun x => (x.filter, x.reasons)) =
      if e.reasons.pressure = true then
        (q.map fun x => (x.filter, x.reasons)).filter (fun x => x.2.pressure) ++ (e.filter, e.reasons) ::
          (q.map fun x => (x.filter, x.reasons)).filter fun x => !x.2.pressure
      else q.map (fun x => (x.filter, x.reasons)) ++ [(e.filter, e.reasons)] := by
  obtain ⟨take, drop⟩ := takeWhile_urgent order
  unfold insertEntry
  rw [take, drop, List.filter_map, List.filter_map]
  show (if e.reasons.pressure = true then _ else _ : List QueueEntry).map _ = _
  split
  · rw [List.map_append, List.map_cons]
    rfl
  · rw [List.map_append]
    rfl

end Sys2Proof.Machine
end

section
/-! SUPPORT. The end of a clean in RETURNING (04 R78): what the Line makes of the filter, and what the reactions of the event
leave of it. O54. -/

namespace Sys2Proof.Machine

variable {s t : State} {f : FilterId}

/-! ## What reactions leave of a clean that has ended -/

/-- The loads of a filter stand, and a clean that is on the Line has no outcome yet. -/
def State.KeepsLoads (f : FilterId) (y : FilterRecord) (s : State) : Prop :=
  ((s.filters.get f).throughput = y.throughput ∧ (s.filters.get f).runTime = y.runTime ∧
    (s.filters.get f).grace = y.grace ∧ (s.filters.get f).backwashCount = y.backwashCount) ∧
  ∀ r, s.line.clean = some r → r.outcome = .none

theorem FilterRecord.afterClean_none (x : FilterRecord) {o : CleanOutcome} (h : o.completed = false) :
    x.afterClean o = { x with lastOutcome := o } := by
  unfold FilterRecord.afterClean
  rw [h]
  rfl

/-- A record changed but for its loads keeps them. -/
theorem State.KeepsLoads.updFilter {y : FilterRecord} (h : s.KeepsLoads f y) (g : FilterId) {k : FilterRecord → FilterRecord}
    (same : (k (s.filters.get g)).throughput = (s.filters.get g).throughput ∧
      (k (s.filters.get g)).runTime = (s.filters.get g).runTime ∧ (k (s.filters.get g)).grace = (s.filters.get g).grace ∧
      (k (s.filters.get g)).backwashCount = (s.filters.get g).backwashCount) : (s.updFilter g k).KeepsLoads f y := by
  refine ⟨?_, h.2⟩
  show _ ∧ _
  rw [State.updFilter_filters, Bank.get_set]
  split
  · next e =>
    subst e
    obtain ⟨a, b, c, d⟩ := same
    obtain ⟨⟨a', b', c', d'⟩, -⟩ := h
    exact ⟨a.trans a', b.trans b', c.trans c', d.trans d'⟩
  · exact h.1

theorem keepsLoads_persistent (f : FilterId) (y : FilterRecord) : Persistent (State.KeepsLoads f y) := by
  refine ⟨fun h e1 e2 _ _ _ => ?_, fun g k h m => ?_, fun h clean ho => ?_, fun h _ => h.updFilter _ ⟨rfl, rfl, rfl, rfl⟩,
    fun b h _ => h, fun h => ⟨h.1, fun _ e => nomatch e⟩, fun h clean same _ => ⟨h.1, fun r e => ?_⟩,
    fun e h _ => ⟨h.1, fun r k => ?_⟩⟩
  case refine_1 =>
    unfold State.KeepsLoads
    rw [e1, e2]
    exact h
  case refine_2 =>
    obtain ⟨a, b, c, d, -⟩ := m
    exact h.updFilter g ⟨a, b, c, d⟩
  case refine_3 =>
    have none := h.2 _ clean
    refine h.updFilter _ ?_
    rw [FilterRecord.afterClean_none _ (by rcases ho with e | e <;> rw [e, none] <;> rfl)]
    exact ⟨rfl, rfl, rfl, rfl⟩
  case refine_4 => cases e; exact same.trans (h.2 _ clean)
  case refine_5 => cases k; rfl

/-- The Line is idle and no grant can be made; a filter keeps its last outcome. -/
def State.KeepsIdle (f : FilterId) (l : Line) (o : CleanOutcome) (s : State) : Prop :=
  s.NoGrant ∧ s.line = { l with clean := none } ∧ (s.filters.get f).lastOutcome = o

theorem State.NoGrant.refuses (h : s.NoGrant) : s.grantAllowed = false := by
  unfold State.grantAllowed
  rcases h with h | h | h | h
  · simp [h]
  · simp [h]
  · simp [h]
  · rw [decide_eq_false (Nat.not_le.2 h), Bool.and_false]

theorem keepsIdle_persistent (f : FilterId) (l : Line) (o : CleanOutcome) : Persistent (State.KeepsIdle f l o) := by
  have idle {s : State} {r : LineRecord} (h : s.KeepsIdle f l o) (clean : s.line.clean = some r) : False := by
    rw [h.2.1] at clean
    cases clean
  refine ⟨fun h e1 e2 e3 e4 e5 => ?_, fun {s} g k h m => ?_, fun h clean _ => (idle h clean).elim,
    fun h clean => (idle h clean).elim, fun b h clean => (idle h clean).elim, fun h => ?_,
    fun h clean _ _ => (idle h clean).elim, fun e h allowed => ?_⟩
  case refine_1 =>
    unfold State.KeepsIdle State.NoGrant
    rw [e1, e2, e3, e4, e5]
    exact h
  case refine_2 =>
    obtain ⟨noGrant, line, last⟩ := h
    obtain ⟨-, -, -, -, same, -⟩ := m
    refine ⟨noGrant, line, ?_⟩
    rw [State.updFilter_filters, Bank.get_set]
    split
    · next e => subst e; exact same.trans last
    · exact last
  case refine_3 =>
    obtain ⟨noGrant, line, last⟩ := h
    exact ⟨noGrant, congrArg (fun x : Line => { x with clean := none }) line, last⟩
  case refine_4 =>
    rw [h.1.refuses] at allowed
    cases allowed

/-! ## A filter in FAULT -/

/-- What entry to FAULT leaves of the rest: the filter's record, its entry gone, the drive and the Line. -/
theorem State.faultFilter_fields {kind : FaultKind} (h : (s.filters.get f).state ≠ .fault) :
    (s.faultFilter f kind).filters.get f = (s.filters.get f).inFault kind ∧
      (s.faultFilter f kind).queue = removeEntry s.queue f ∧ (s.faultFilter f kind).line = s.line := by
  have record := s.faultRecorded_record f kind
  have frame := s.faultRecorded_frame f kind
  rw [State.faultFilter_eq h, State.postTo_frame]
  exact ⟨record, (congrArg State.queue frame :), (congrArg State.line frame :)⟩

/-! ## ARRIVED in RETURNING (04 R78) -/

theorem State.lineIdle_filters (s : State) : s.lineIdle.filters = s.filters := rfl
theorem State.lineIdle_queue (s : State) : s.lineIdle.queue = s.queue := rfl
theorem State.lineIdle_ports (s : State) : s.lineIdle.ports = s.ports := rfl
theorem State.lineIdle_line (s : State) : s.lineIdle.line = { s.line with clean := none } := rfl

theorem State.postTo_queue (s : State) (c : Option CircuitId) (n : Notice) : (s.postTo c n).queue = s.queue := by
  rw [State.postTo_frame]

theorem State.postTo_line (s : State) (c : Option CircuitId) (n : Notice) : (s.postTo c n).line = s.line := by
  rw [State.postTo_frame]

/-- A filter in FAULT or OUT_OF_USE without a travel or an entry is moved by nothing once the Line is idle. -/
theorem State.lineIdle_still (state : (s.filters.get f).state = .fault ∨ (s.filters.get f).state = .outOfUse)
    (circuit : (s.filters.get f).circuit = none) (entries : ∀ e ∈ s.queue, e.filter ≠ f)
    (request : s.requests.get f = none) (travel : f ∉ s.travelQueue) : s.lineIdle.Still f :=
  ⟨state, circuit, entries, request, travel, fun _ clean => nomatch clean⟩

/-- The clean is on its way back, or its return is held by plant stop. -/
def LineRecord.returns (r : LineRecord) : Prop :=
  r.phase = .returning ∨ (r.phase = .stopHeld ∧ r.heldPhase = some .returning)

theorem State.lineArrived_ends {r : LineRecord} (h : r.returns) : s.lineArrived r = s.endClean r := by
  unfold State.lineArrived
  rcases h with e | ⟨e, held⟩
  · rw [e]
  · rw [e]
    dsimp only
    rw [if_pos held]

theorem State.detentClose_endsClean {r : LineRecord} {q : TravelRequest} (clean : s.line.clean = some r)
    (request : s.requests.get r.filter = some q) (line : q.requester = .backwashLine)
    (settling : (s.channels.get r.filter).state = .settling) (stop : (s.channels.get r.filter).settleStop = some q.target)
    (returns : r.returns) : s.detentClose r.filter = ((s.seatTaken r.filter q.target).endClean r).handOut := by
  rw [State.detentClose_arrives request settling stop, line]
  refine congrArg State.handOut ?_
  unfold State.deliver State.lineOutcome
  rw [show (s.seatTaken r.filter q.target).line.clean = some r from clean]
  dsimp only
  rw [if_pos rfl]
  exact State.lineArrived_ends returns

theorem FilterRecord.afterClean_eq (x : FilterRecord) (o : CleanOutcome) : x.afterClean o = x.cleaned o := by
  unfold FilterRecord.afterClean FilterRecord.cleaned
  cases o <;> rfl

/-- The notices of an end of a clean in FAULT. -/
theorem State.endUnrinsed_notices {r : LineRecord} (awake : (s.filters.get r.filter).state ≠ .fault) :
    ((s.endUnrinsed r).ports.get .plant).hasNotice .filterFault = true ∧
      (∀ k, (s.filters.get r.filter).circuit = some k →
        ((s.endUnrinsed r).ports.get (.circuit k)).hasNotice .filterFault = true) ∧
      ∀ k, r.startCircuit = some k → ((s.endUnrinsed r).ports.get (.circuit k)).hasNotice .backwashAborted = true := by
  unfold State.endUnrinsed
  dsimp only
  generalize outcome : (s.updFilter r.filter fun x => { x with lastOutcome := r.outcome.orAborted }) = t
  have record : t.filters.get r.filter = { s.filters.get r.filter with lastOutcome := r.outcome.orAborted } := by
    rw [← outcome]
    exact Bank.get_set_same ..
  obtain ⟨plant, circuit⟩ := State.faultFilter_notices (s := t) (f := r.filter) (kind := .unrinsed) (by rw [record]; exact awake)
  have told := ((Reacts.refl (t.faultFilter r.filter .unrinsed)).postTo r.startCircuit .backwashAborted).lineIdle
  rw [record] at circuit
  exact ⟨told.notice plant, fun k on => told.notice (circuit k on), fun k on =>
    (Reacts.refl _).lineIdle.notice (State.postTo_notice _ on _)⟩

/-- The filter is in FAULT UNRINSED, out of the queue and off the Line: nothing moves it (04 R78, step 1). -/
theorem State.endUnrinsed_still {r : LineRecord} (awake : (s.filters.get r.filter).state ≠ .fault)
    (request : s.requests.get r.filter = none) (travel : r.filter ∉ s.travelQueue) :
    (s.endUnrinsed r).Still r.filter ∧ (s.endUnrinsed r).filters.get r.filter =
        { s.filters.get r.filter with lastOutcome := r.outcome.orAborted }.inFault .unrinsed ∧
      SameDrive s (s.endUnrinsed r) := by
  unfold State.endUnrinsed
  dsimp only
  generalize outcome : (s.updFilter r.filter fun x => { x with lastOutcome := r.outcome.orAborted }) = t
  have record : t.filters.get r.filter = { s.filters.get r.filter with lastOutcome := r.outcome.orAborted } := by
    rw [← outcome]
    exact Bank.get_set_same ..
  have before : SameDrive s t := by rw [← outcome]; exact .refl s
  have faults := before.trans (SameDrive.faultFilter t r.filter .unrinsed)
  obtain ⟨fault, queue, -⟩ := State.faultFilter_fields (s := t) (f := r.filter) (kind := .unrinsed)
    (by rw [record]; exact awake)
  rw [record] at fault
  generalize t.faultFilter r.filter .unrinsed = u at fault queue faults ⊢
  have filters := u.postTo_filters r.startCircuit .backwashAborted
  have entries := u.postTo_queue r.startCircuit .backwashAborted
  have drive := faults.trans (SameDrive.postTo u r.startCircuit .backwashAborted)
  generalize u.postTo r.startCircuit .backwashAborted = v at filters entries drive ⊢
  rw [← filters] at fault
  rw [queue] at entries
  refine ⟨State.lineIdle_still (.inl ?_) ?_ ?_ ?_ ?_, fault, drive.trans (.lineIdle v)⟩
  · exact congrArg FilterRecord.state fault
  · exact congrArg FilterRecord.circuit fault
  · rw [entries]
    exact fun e m => (mem_removeEntry m).2
  · rw [drive.requests]
    exact request
  · rw [drive.travelQueue]
    exact travel

/-- The filter's record when its clean has ended without an exit fault (01 R8, 04 R78). -/
def FilterRecord.returned (y : FilterRecord) (target : Stop) (dpHold : Nat) : FilterRecord :=
  if target = .closed then { y with circuit := none, cover := false, releaseOnReturn := false }.outside .standby
  else { y with releaseOnReturn := false }.inService dpHold

/-- The state with the filter returned to the Filter Table (04 R78, step 3). -/
def State.filterReturned (s : State) (r : LineRecord) : State :=
  (s.updFilter r.filter fun x => x.afterClean r.outcome).returnFilter r

theorem State.cleaned_record (s : State) (r : LineRecord) :
    (s.updFilter r.filter fun x => x.afterClean r.outcome).filters.get r.filter = (s.filters.get r.filter).cleaned r.outcome :=
  (Bank.get_set_same ..).trans (FilterRecord.afterClean_eq _ _)

theorem State.filterReturned_record (s : State) (r : LineRecord) : (s.filterReturned r).filters.get r.filter =
    ((s.filters.get r.filter).cleaned r.outcome).returned r.returnTarget s.settings.dpHold := by
  have record := s.cleaned_record r
  unfold State.filterReturned State.returnFilter FilterRecord.returned
  split
  · unfold State.returnToStandby
    rw [State.postTo_filters, State.moveFilter_record, FilterRecord.enter_outside _ (by decide), record]
  · unfold State.returnToCircuit
    rw [State.postTo_filters, State.moveFilter_record, FilterRecord.enter_service, record]
    rfl

/-- The circuit is told that its filter has come back, or has left it (01 R8). -/
theorem State.filterReturned_notice (s : State) {r : LineRecord} {k : CircuitId}
    (on : (s.filters.get r.filter).circuit = some k) : ((s.filterReturned r).ports.get (.circuit k)).hasNotice
      (if r.returnTarget = .closed then .filterLeft else .filterJoined) = true := by
  have circuit : ((s.updFilter r.filter fun x => x.afterClean r.outcome).filters.get r.filter).circuit = some k := by
    rw [State.cleaned_record, ← on]
    unfold FilterRecord.cleaned
    split <;> rfl
  unfold State.filterReturned State.returnFilter
  split
  · exact State.postTo_notice _ circuit _
  · exact State.postTo_notice _ circuit _

theorem SameDrive.filterReturned (s : State) (r : LineRecord) : SameDrive s (s.filterReturned r) := by
  unfold State.filterReturned State.returnFilter
  split
  · unfold State.returnToStandby
    rw [State.postTo_frame]
    exact .refl s
  · unfold State.returnToCircuit
    rw [State.postTo_frame]
    exact .refl s

theorem State.filterReturned_queue (s : State) (r : LineRecord) : (s.filterReturned r).queue = s.queue := by
  unfold State.filterReturned State.returnFilter
  split
  · unfold State.returnToStandby
    rw [State.postTo_frame]
    rfl
  · unfold State.returnToCircuit
    rw [State.postTo_frame]
    rfl

/-- The state with the filter filed again where the clean asks for it (04 R78, step 3). -/
def State.filedAgain (s : State) (r : LineRecord) : State :=
  if r.requeue then s.fileEntry r.filter { r.reasons with retry := true } else s

/-! ### The entries of the returned filter -/

theorem State.filedAgain_filters (s : State) (r : LineRecord) : (s.filedAgain r).filters = s.filters := by
  unfold State.filedAgain
  split
  · exact State.fileEntry_filters ..
  · rfl

theorem SameDrive.filedAgain (s : State) (r : LineRecord) : SameDrive s (s.filedAgain r) := by
  unfold State.filedAgain
  split
  · exact .fileEntry s _ _
  · exact .refl s

theorem SameDrive.checkLoadsInService (s : State) (f : FilterId) : SameDrive s (s.checkLoadsInService f) := by
  unfold State.checkLoadsInService
  split
  · exact .checkLoads s f
  · exact .refl s

theorem State.checkLoadsInService_filters (s : State) (f : FilterId) : (s.checkLoadsInService f).filters = s.filters := by
  unfold State.checkLoadsInService
  split
  · exact State.checkLoads_filters s f
  · rfl

/-- The state with the clean ended, before the Line is idle: the filter returned, filed, and its loads checked. -/
def State.returnFiled (s : State) (r : LineRecord) : State :=
  ((s.filterReturned r).filedAgain r).checkLoadsInService r.filter

theorem State.endReturned_eq (s : State) (r : LineRecord) : s.endReturned r = ((s.returnFiled r).postTo r.startCircuit
    (if r.outcome.completed then .backwashDone else .backwashAborted)).lineIdle := rfl

theorem State.returnFiled_record (s : State) (r : LineRecord) : (s.returnFiled r).filters.get r.filter =
    ((s.filters.get r.filter).cleaned r.outcome).returned r.returnTarget s.settings.dpHold := by
  unfold State.returnFiled
  rw [State.checkLoadsInService_filters, State.filedAgain_filters, State.filterReturned_record]

theorem SameDrive.returnFiled (s : State) (r : LineRecord) : SameDrive s (s.returnFiled r) :=
  (SameDrive.filterReturned s r).trans ((SameDrive.filedAgain _ r).trans (.checkLoadsInService _ _))

theorem SameDrive.endReturned (s : State) (r : LineRecord) : SameDrive s (s.endReturned r) := by
  have filed := SameDrive.returnFiled s r
  rw [State.endReturned_eq]
  generalize s.returnFiled r = u at filed ⊢
  exact filed.trans ((SameDrive.postTo u _ _).trans (.lineIdle _))

theorem State.endReturned_queue (s : State) (r : LineRecord) : (s.endReturned r).queue = (s.returnFiled r).queue := by
  rw [State.endReturned_eq]
  generalize s.returnFiled r = u
  rw [State.lineIdle_queue, State.postTo_queue]

theorem State.endReturned_record (s : State) (r : LineRecord) : (s.endReturned r).filters.get r.filter =
    ((s.filters.get r.filter).cleaned r.outcome).returned r.returnTarget s.settings.dpHold := by
  have record := s.returnFiled_record r
  rw [State.endReturned_eq]
  generalize s.returnFiled r = u at record ⊢
  rw [State.lineIdle_filters, State.postTo_filters]
  exact record

/-- The notices of an end of a clean without an exit fault (04 R78, step 4). -/
theorem State.endReturned_notices (s : State) (r : LineRecord) :
    (∀ k, r.startCircuit = some k → ((s.endReturned r).ports.get (.circuit k)).hasNotice
      (if r.outcome = .complete ∨ r.outcome = .short then .backwashDone else .backwashAborted) = true) ∧
    ∀ k, (s.filters.get r.filter).circuit = some k → ((s.endReturned r).ports.get (.circuit k)).hasNotice
      (if r.returnTarget = .closed then .filterLeft else .filterJoined) = true := by
  have completed : (if r.outcome = .complete ∨ r.outcome = .short then Notice.backwashDone else .backwashAborted) =
      if r.outcome.completed then .backwashDone else .backwashAborted := by cases r.outcome <;> rfl
  refine ⟨fun k on => ?_, fun k on => ?_⟩
  · rw [completed, State.endReturned_eq]
    generalize s.returnFiled r = u
    rw [State.lineIdle_ports]
    exact State.postTo_notice u on _
  · have filed : Reacts (s.filterReturned r) ((s.filterReturned r).filedAgain r) := by
      unfold State.filedAgain
      split
      · exact (Reacts.refl _).fileEntry _ _
      · exact .refl _
    have left := s.filterReturned_notice on
    have checked : Reacts (s.filterReturned r) (s.returnFiled r) := filed.checkLoadsInService r.filter
    rw [State.endReturned_eq]
    generalize s.returnFiled r = u at checked ⊢
    rw [State.lineIdle_ports]
    exact (checked.postTo r.startCircuit _).notice left

theorem State.checkLoads_none (below : ¬ s.settings.throughputLitres ≤ (s.filters.get f).throughput)
    (early : ¬ s.settings.runTimeMinutes ≤ (s.filters.get f).runTime) : s.checkLoads f = s := by
  have throughput : s.checkThroughput f = s := by
    unfold State.checkThroughput
    rw [if_neg below]
  unfold State.checkLoads
  rw [throughput]
  unfold State.checkRunTime
  rw [if_neg early]

/-- The loads checked in SERVICE leave the filter with an entry for each limit reached (02 R40). -/
theorem State.checkLoads_entry (service : (s.filters.get f).state = .service) :
    (s.settings.throughputLitres ≤ (s.filters.get f).throughput →
      ∃ e, (s.checkLoads f).entryOf f = some e ∧ e.reasons.throughput = true) ∧
    (s.settings.runTimeMinutes ≤ (s.filters.get f).runTime →
      ∃ e, (s.checkLoads f).entryOf f = some e ∧ e.reasons.runTime = true) := by
  have may : (s.filters.get f).state.mayQueue = true := by rw [service]; rfl
  have filters : (s.checkThroughput f).filters = s.filters := by
    unfold State.checkThroughput
    split
    · exact State.fileEntry_filters ..
    · rfl
  have settings : (s.checkThroughput f).settings = s.settings := by
    unfold State.checkThroughput
    split
    · exact (SameDrive.fileEntry s f _).settings
    · rfl
  have may' : ((s.checkThroughput f).filters.get f).state.mayQueue = true := by rw [filters]; exact may
  unfold State.checkLoads State.checkRunTime
  rw [settings, filters]
  refine ⟨fun above => ?_, fun late => ?_⟩
  · obtain ⟨e, found, reasons⟩ := State.fileEntry_entry (s := s) (f := f) { throughput := true } may
    have raised : s.checkThroughput f = s.fileEntry f { throughput := true } := by
      unfold State.checkThroughput
      rw [if_pos above]
    have set : e.reasons.throughput = true := by
      rw [reasons]
      split
      · rfl
      · simp [Reasons.union]
    rw [← raised] at found
    split
    · obtain ⟨e', found', reasons'⟩ := State.fileEntry_entry (s := s.checkThroughput f) (f := f) { runTime := true } may'
      rw [found] at reasons'
      exact ⟨e', found', by rw [reasons']; simp [Reasons.union, set]⟩
    · exact ⟨e, found, set⟩
  · obtain ⟨e, found, reasons⟩ := State.fileEntry_entry (s := s.checkThroughput f) (f := f) { runTime := true } may'
    rw [if_pos late]
    refine ⟨e, found, ?_⟩
    rw [reasons]
    split
    · rfl
    · simp [Reasons.union]

theorem State.checkLoads_distinct (s : State) (f : FilterId) (distinct : (s.queue.map QueueEntry.filter).Nodup) :
    ((s.checkLoads f).queue.map QueueEntry.filter).Nodup := by
  have throughput : ((s.checkThroughput f).queue.map QueueEntry.filter).Nodup := by
    unfold State.checkThroughput
    split
    · exact State.fileEntry_distinct _ _ _ distinct
    · exact distinct
  unfold State.checkLoads State.checkRunTime
  split
  · exact State.fileEntry_distinct _ _ _ throughput
  · exact throughput

end Sys2Proof.Machine
end

section
/-! O54: the end of a clean, taken with the reactions of its event. -/

namespace Sys2Proof.Machine

variable {s : State} {f : FilterId}

/-- What stands once the reactions of the event are over, if it stood at the end of the clean. -/
theorem Persistent.endOfEvent {P : State → Prop} (h : Persistent P) (hs : P s) : P s.handOut.finishEvent :=
  h.finishEvent (h.handOut hs)

theorem FilterRecord.returned_loads (y : FilterRecord) (k : Stop) (n : Nat) :
    (y.returned k n).throughput = y.throughput ∧ (y.returned k n).runTime = y.runTime ∧
      (y.returned k n).grace = y.grace ∧ (y.returned k n).backwashCount = y.backwashCount ∧
      (y.returned k n).lastOutcome = y.lastOutcome := by
  unfold FilterRecord.returned
  split <;> exact ⟨rfl, rfl, rfl, rfl, rfl⟩

theorem FilterRecord.cleaned_lastOutcome (x : FilterRecord) (o : CleanOutcome) : (x.cleaned o).lastOutcome = o := by
  unfold FilterRecord.cleaned
  split <;> rfl

theorem FilterRecord.returned_state (y : FilterRecord) (k : Stop) (n : Nat) :
    (y.returned k n).state = if k = .closed then .standby else .service := by
  unfold FilterRecord.returned
  split <;> rfl

/-- A selector whose travel is over waits for no slot. -/
theorem State.seatTaken_waits (s : State) (f : FilterId) (stop : Stop) : f ∉ (s.seatTaken f stop).travelQueue := by
  simp [State.seatTaken, State.travelCleared]

/-- The end of a clean leaves what grants rest on. -/
theorem State.NoGrant.undisturbed {t : State} (h : s.NoGrant) (k : s.Undisturbed t) : t.NoGrant := by
  unfold State.NoGrant
  rw [k.stopActive, k.available, k.waste, k.settings]
  exact h

theorem State.faultFilter_line (s : State) (f : FilterId) (kind : FaultKind) : (s.faultFilter f kind).line = s.line := by
  by_cases h : (s.filters.get f).state = .fault
  · unfold State.faultFilter
    rw [if_pos h]
  · exact (State.faultFilter_fields h).2.2

theorem State.endUnrinsed_line (s : State) (r : LineRecord) : (s.endUnrinsed r).line = { s.line with clean := none } := by
  unfold State.endUnrinsed
  dsimp only
  rw [State.lineIdle_line, State.postTo_line, State.faultFilter_line]
  rfl

theorem QueueOnly.line {t : State} (h : QueueOnly s t) : t.line = s.line := (congrArg State.line h :)

theorem State.fileEntry_line (s : State) (f : FilterId) (rs : Reasons) : (s.fileEntry f rs).line = s.line :=
  (QueueOnly.fileEntry s f rs).line

theorem State.checkLoads_line (s : State) (f : FilterId) : (s.checkLoads f).line = s.line :=
  (QueueOnly.checkLoads s f).line

theorem State.returnFiled_line (s : State) (r : LineRecord) : (s.returnFiled r).line = s.line := by
  have returned : (s.filterReturned r).line = s.line := by
    unfold State.filterReturned State.returnFilter
    split
    · unfold State.returnToStandby
      rw [State.postTo_line]
      rfl
    · unfold State.returnToCircuit
      rw [State.postTo_line]
      rfl
  have filed (u : State) : (u.filedAgain r).line = u.line := by
    unfold State.filedAgain
    split
    · exact State.fileEntry_line ..
    · rfl
  have checked (u : State) : (u.checkLoadsInService r.filter).line = u.line := by
    unfold State.checkLoadsInService
    split
    · exact State.checkLoads_line ..
    · rfl
  unfold State.returnFiled
  rw [checked, filed, returned]

theorem State.endReturned_line (s : State) (r : LineRecord) : (s.endReturned r).line = { s.line with clean := none } := by
  rw [State.endReturned_eq, State.lineIdle_line, State.postTo_line, State.returnFiled_line]

/-- The entries of the queue when a clean has ended without an exit fault (04 R78, step 3), where the queue keeps its law. -/
theorem State.returnFiled_entries {r : LineRecord} (law : s.QueueLaw) (cleaning : (s.filters.get r.filter).state = .cleaning) :
    ((s.returnFiled r).queue.map QueueEntry.filter).Nodup ∧
      (r.returnTarget = .closed ∨ (¬ s.settings.throughputLitres ≤ ((s.filters.get r.filter).cleaned r.outcome).throughput ∧
          ¬ s.settings.runTimeMinutes ≤ ((s.filters.get r.filter).cleaned r.outcome).runTime) →
        (s.returnFiled r).entries = if r.requeue = true then
          (if r.reasons.pressure = true then
            s.entries.filter (fun e => e.2.pressure) ++ (r.filter, { r.reasons with retry := true }) ::
              s.entries.filter fun e => !e.2.pressure
          else s.entries ++ [(r.filter, { r.reasons with retry := true })])
        else s.entries) ∧
      (r.returnTarget ≠ .closed →
        (s.settings.throughputLitres ≤ ((s.filters.get r.filter).cleaned r.outcome).throughput →
          ∃ e ∈ (s.returnFiled r).queue, e.filter = r.filter ∧ e.reasons.throughput = true) ∧
        (s.settings.runTimeMinutes ≤ ((s.filters.get r.filter).cleaned r.outcome).runTime →
          ∃ e ∈ (s.returnFiled r).queue, e.filter = r.filter ∧ e.reasons.runTime = true)) := by
  have queue := s.filterReturned_queue r
  have record := s.filterReturned_record r
  have drive := SameDrive.filterReturned s r
  have noEntry : ∀ e ∈ s.queue, e.filter ≠ r.filter := fun e mem same => by
    have may := law.states e mem
    rw [same, cleaning] at may
    cases may
  unfold State.returnFiled
  generalize s.filterReturned r = t at queue record drive
  have state : (t.filters.get r.filter).state = if r.returnTarget = .closed then .standby else .service := by
    rw [record, FilterRecord.returned_state]
  have may : (t.filters.get r.filter).state.mayQueue = true := by
    rw [state]
    split <;> rfl
  have filed : (t.filedAgain r).entries = (if r.requeue = true then
      (if r.reasons.pressure = true then
        s.entries.filter (fun e => e.2.pressure) ++ (r.filter, { r.reasons with retry := true }) ::
          s.entries.filter fun e => !e.2.pressure
      else s.entries ++ [(r.filter, { r.reasons with retry := true })])
    else s.entries) := by
    unfold State.filedAgain
    split
    · have none : t.entryOf r.filter = none := by
        unfold State.entryOf
        rw [queue]
        exact List.find?_eq_none.2 fun e mem => by simpa using noEntry e mem
      unfold State.entries
      rw [State.fileEntry_new may none, queue]
      exact insertEntry_entries law.order _
    · unfold State.entries
      rw [queue]
  have filters := t.filedAgain_filters r
  have settings : (t.filedAgain r).settings = s.settings := (drive.trans (.filedAgain t r)).settings
  have distinct : ((t.filedAgain r).queue.map QueueEntry.filter).Nodup := by
    unfold State.filedAgain
    split
    · exact State.fileEntry_distinct _ _ _ (by rw [queue]; exact law.distinct)
    · rw [queue]
      exact law.distinct
  generalize t.filedAgain r = u at filed filters settings distinct
  have record' := record
  rw [← filters] at record'
  have loads := ((s.filters.get r.filter).cleaned r.outcome).returned_loads r.returnTarget s.settings.dpHold
  obtain ⟨throughput, runTime, -⟩ := loads
  rw [← record'] at throughput runTime
  unfold State.checkLoadsInService
  by_cases closed : r.returnTarget = .closed
  · have standby : (u.filters.get r.filter).state ≠ .service := by
      rw [filters, state, if_pos closed]
      decide
    rw [if_neg standby]
    exact ⟨distinct, fun _ => filed, fun k => absurd closed k⟩
  · have service : (u.filters.get r.filter).state = .service := by rw [filters, state, if_neg closed]
    rw [if_pos service]
    obtain ⟨above, late⟩ := State.checkLoads_entry (s := u) service
    rw [settings, throughput] at above
    rw [settings, runTime] at late
    refine ⟨u.checkLoads_distinct _ distinct, fun below => ?_, fun _ => ⟨fun h => ?_, fun h => ?_⟩⟩
    · obtain ⟨below, early⟩ := below.resolve_left closed
      rw [State.checkLoads_none (by rw [settings, throughput]; exact below) (by rw [settings, runTime]; exact early)]
      exact filed
    · obtain ⟨e, found, set⟩ := above h
      obtain ⟨mem, named⟩ := State.entryOf_some found
      exact ⟨e, mem, named, set⟩
    · obtain ⟨e, found, set⟩ := late h
      obtain ⟨mem, named⟩ := State.entryOf_some found
      exact ⟨e, mem, named, set⟩

/-! ## The obligation -/

theorem State.endClean_line (s : State) (r : LineRecord) : (s.endClean r).line = { s.line with clean := none } := by
  unfold State.endClean
  split
  · exact s.endUnrinsed_line r
  · exact s.endReturned_line r

/-- Where no grant can be made the Line stays idle to the end of the event. -/
theorem State.endClean_idle {r : LineRecord} (clean : s.line.clean = some r) (noGrant : s.NoGrant) (f : FilterId) :
    (s.endClean r).handOut.finishEvent.line = { s.line with clean := none } ∧
      ((s.endClean r).handOut.finishEvent.filters.get f).lastOutcome = ((s.endClean r).filters.get f).lastOutcome := by
  have before : (s.endClean r).KeepsIdle f s.line ((s.endClean r).filters.get f).lastOutcome :=
    ⟨noGrant.undisturbed ((Reacts.refl s).endClean clean).undisturbed, s.endClean_line r, rfl⟩
  obtain ⟨-, line, last⟩ := (keepsIdle_persistent f s.line _).endOfEvent before
  exact ⟨line, last⟩

/-- The loads that the end of a clean leaves stand to the end of the event. -/
theorem State.endReturned_loads (s : State) (r : LineRecord) :
    let z := (s.endReturned r).handOut.finishEvent.filters.get r.filter
    let y := (s.filters.get r.filter).cleaned r.outcome
    z.throughput = y.throughput ∧ z.runTime = y.runTime ∧ z.grace = y.grace ∧ z.backwashCount = y.backwashCount := by
  intro z y
  have record := s.endReturned_record r
  obtain ⟨throughput, runTime, grace, count, -⟩ := y.returned_loads r.returnTarget s.settings.dpHold
  have before : (s.endReturned r).KeepsLoads r.filter y := by
    refine ⟨?_, fun x clean => ?_⟩
    · rw [record]
      exact ⟨throughput, runTime, grace, count⟩
    · rw [State.endReturned_line] at clean
      cases clean
  exact ((keepsLoads_persistent r.filter y).endOfEvent before).1

/-- Nothing moves a filter whose clean has ended UNRINSED: its record and its channel stand to the end of the event. -/
theorem State.endUnrinsed_end {r : LineRecord} (cleaning : (s.filters.get r.filter).state = .cleaning) (stop : Stop) :
    let t := ((s.seatTaken r.filter stop).endUnrinsed r).handOut.finishEvent
    t.filters.get r.filter = { s.filters.get r.filter with lastOutcome := r.outcome.orAborted }.inFault .unrinsed ∧
      t.channels.get r.filter = (s.channels.get r.filter).arrivedAt stop ∧ t.Still r.filter := by
  intro t
  obtain ⟨still, record, drive⟩ := State.endUnrinsed_still (s := s.seatTaken r.filter stop) (r := r)
    (by rw [State.seatTaken_filters, cleaning]; decide) (State.seatTaken_request ..) (s.seatTaken_waits _ _)
  have follows : Reacts ((s.seatTaken r.filter stop).endUnrinsed r) t := (Reacts.refl _).handOut.finishEvent
  obtain ⟨still', record', channel⟩ := follows.still r.filter still
  refine ⟨record'.trans record, ?_, still'⟩
  rw [channel, drive.channels, State.seatTaken_channel, Channel.seatedOver_ended]

/-- Under plant stop the returned filter, its channel and the queue stand to the end of the event. -/
theorem State.endReturned_stopped (r : LineRecord) (stopped : s.stopActive = true) (stop : Stop) :
    let a := s.seatTaken r.filter stop
    Settles (a.endReturned r) (a.endReturned r).handOut.finishEvent := by
  intro a
  have drive := SameDrive.endReturned a r
  have stopped' : (a.endReturned r).stopActive = true := drive.stopActive.trans stopped
  rw [State.NoHandOut.handOut (s := a.endReturned r) (.inr (.inr (Bool.or_eq_true_iff.2 (.inl stopped'))))]
  exact State.Dormant.finishEvent (.inl stopped')

/-- An entry of one queue is one of another with the same filters and reasons. -/
theorem mem_of_entries {t : State} {p : Reasons → Prop} (same : t.entries = s.entries)
    (h : ∃ e ∈ s.queue, e.filter = f ∧ p e.reasons) : ∃ e ∈ t.queue, e.filter = f ∧ p e.reasons := by
  obtain ⟨e, mem, named, holds⟩ := h
  have there : (e.filter, e.reasons) ∈ t.entries := by
    rw [same]
    exact List.mem_map.2 ⟨e, mem, rfl⟩
  obtain ⟨x, mem', equal⟩ := List.mem_map.1 there
  obtain ⟨filter, reasons⟩ := Prod.mk.inj equal
  exact ⟨x, mem', filter.trans named, by rw [reasons]; exact holds⟩

/-- What stands of a clean that ends without an exit fault under plant stop, where the queue keeps its law. -/
theorem State.endReturned_held {r : LineRecord} (stopped : s.stopActive = true) (law : s.QueueLaw)
    (cleaning : (s.filters.get r.filter).state = .cleaning) (stop : Stop) :
    let t := ((s.seatTaken r.filter stop).endReturned r).handOut.finishEvent
    let y := (s.filters.get r.filter).cleaned r.outcome
    t.filters.get r.filter = y.returned r.returnTarget s.settings.dpHold ∧ t.requests.get r.filter = none ∧
      t.channels.get r.filter = (s.channels.get r.filter).arrivedAt stop ∧
      (r.returnTarget = .closed ∨ (¬ s.settings.throughputLitres ≤ y.throughput ∧ ¬ s.settings.runTimeMinutes ≤ y.runTime) →
        t.entries = if r.requeue = true then
          (if r.reasons.pressure = true then
            s.entries.filter (fun e => e.2.pressure) ++ (r.filter, { r.reasons with retry := true }) ::
              s.entries.filter fun e => !e.2.pressure
          else s.entries ++ [(r.filter, { r.reasons with retry := true })])
        else s.entries) ∧
      (r.returnTarget ≠ .closed →
        (s.settings.throughputLitres ≤ y.throughput → ∃ e ∈ t.queue, e.filter = r.filter ∧ e.reasons.throughput = true) ∧
        (s.settings.runTimeMinutes ≤ y.runTime → ∃ e ∈ t.queue, e.filter = r.filter ∧ e.reasons.runTime = true)) := by
  intro t y
  have settles := State.endReturned_stopped r stopped stop
  have record := (s.seatTaken r.filter stop).endReturned_record r
  have drive := SameDrive.endReturned (s.seatTaken r.filter stop) r
  have queue := (s.seatTaken r.filter stop).endReturned_queue r
  obtain ⟨distinct, filed, loads⟩ := State.returnFiled_entries (s := s.seatTaken r.filter stop) (r := r)
    ⟨law.states, law.distinct, law.order⟩ cleaning
  have entries : t.entries = ((s.seatTaken r.filter stop).returnFiled r).entries := by
    refine (settles.entries (by rw [queue]; exact distinct)).trans ?_
    unfold State.entries
    rw [queue]
  refine ⟨?_, ?_, ?_, fun h => entries.trans (filed h), fun h => ⟨fun above => ?_, fun late => ?_⟩⟩
  · rw [settles.filters]
    exact record
  · rw [settles.requests, drive.requests, State.seatTaken_request]
  · rw [settles.channels, drive.channels, State.seatTaken_channel, Channel.seatedOver_ended]
  · exact mem_of_entries (p := fun x => x.throughput = true) entries ((loads h).1 above)
  · exact mem_of_entries (p := fun x => x.runTime = true) entries ((loads h).2 late)

/-- Settles O54: the state at the end of the clean by its steps, and what the reactions of the event leave of it. -/
theorem returnsEndTheClean : Obligations.ReturnsEndTheClean := by
  unfold Obligations.ReturnsEndTheClean
  intro s r q clean f ch x cleaning request line settling stop returns o
  have ends := State.detentClose_endsClean clean request line settling stop returns
  have undisturbed := State.detentClose_undisturbed request
  have idle := fun noGrant : s.NoGrant => State.endClean_idle (s := s.seatTaken f q.target) clean noGrant f
  rw [ends] at undisturbed
  refine ⟨_, congrArg Host.Outcome.next (congrArg State.finishEvent ends), undisturbed, fun noGrant => (idle noGrant).1, ?_, ?_⟩
  · intro unrinsed
    have isUnrinsed : (s.seatTaken f q.target).endClean r = (s.seatTaken f q.target).endUnrinsed r := by
      unfold State.endClean
      rw [if_pos unrinsed]
    rw [isUnrinsed]
    obtain ⟨record, channel, still⟩ := State.endUnrinsed_end cleaning q.target
    obtain ⟨plant, circuit, start⟩ := State.endUnrinsed_notices (s := s.seatTaken f q.target) (r := r)
      (by rw [State.seatTaken_filters, cleaning]; decide)
    have follows : Reacts ((s.seatTaken f q.target).endUnrinsed r) _ := (Reacts.refl _).handOut.finishEvent
    exact ⟨record, still.request, channel, still.queue, still.line, follows.notice plant,
      fun k on => follows.notice (circuit k on), fun k on => follows.notice (start k on)⟩
  · intro rinsed
    have isReturned : (s.seatTaken f q.target).endClean r = (s.seatTaken f q.target).endReturned r := by
      unfold State.endClean
      rw [if_neg (by simp [rinsed])]
    rw [isReturned] at idle ⊢
    intro y z
    obtain ⟨throughput, runTime, grace, count⟩ := (s.seatTaken f q.target).endReturned_loads r
    obtain ⟨start, circuit⟩ := (s.seatTaken f q.target).endReturned_notices r
    have record := (s.seatTaken f q.target).endReturned_record r
    have follows : Reacts ((s.seatTaken f q.target).endReturned r) _ := (Reacts.refl _).handOut.finishEvent
    refine ⟨throughput, runTime, grace, count, fun noGrant => ?_, fun k on => follows.notice (start k on),
      fun k on => follows.notice (circuit k on), fun stopped law => ?_⟩
    · refine (idle noGrant).2.trans ?_
      rw [record]
      exact (FilterRecord.returned_loads _ _ _).2.2.2.2.trans (FilterRecord.cleaned_lastOutcome _ _)
    · exact State.endReturned_held stopped law cleaning q.target

end Sys2Proof.Machine
end

section
/-! O60: the Line's selector that settles over stop 6 without a slot may carry the homing phase SEARCH, for no law of the drive
ties a homing phase to a homing request. The home edge that ends SEARCH then settles it over stop 0, with no slot, and the law
of a slotless settle (`State.CleanLaw.slotless`) is lost. -/

namespace Sys2Proof.Machine

open Sys2Proof.Tests

/-- Filter 2 CLEANING on its way to stop 6, over which its selector settles without a slot; its channel holds the homing phase
SEARCH and the record of a rising home edge five steps old. -/
def searchingOverRinse : State :=
  { onLine plant (clean .toRinse) { settlingAt .rinse with
      homing := some .search, edge := some { position := none, dir := .cw, rising := true, steps := 5 } } .rinse with
    slots := { first := none, second := none }, pending := [.homeEdgeConfirmed .f2 true] }

theorem searchingOverRinse_drive : searchingOverRinse.DriveLaw where
  requests :=
    { asked := by intro f; cases f <;> decide
      waiting := by intro f r h; cases f <;> cases h; decide
      queued := by intro f; cases f <;> decide
      distinct := by decide
      homing := by
        intro f h
        cases f
        case f2 => rfl
        all_goals cases h }
  slots :=
    { needed := by intro f; cases f <;> decide
      holder := by intro f; cases f <;> decide
      separate := by intro f h; cases h }
  speeds :=
    { moving := by intro f; cases f <;> decide
      still := by intro f; cases f <;> decide
      copied := by intro f; cases f <;> decide
      checked := by decide }
  setup := by intro h; cases h
  atRest := by intro h; cases h

theorem searchingOverRinse_assignment : searchingOverRinse.AssignmentLaw where
  assigned := by intro f; cases f <;> decide
  unassigned := by intro f; cases f <;> decide
  cover := by intro f; cases f <;> decide
  oneCover := by intro f g h; cases f <;> cases h
  mark := by intro f h; cases f <;> cases h
  seated := by
    intro f c serves at_c
    cases f
    case f1 | f3 => cases at_c; exact ⟨rfl, rfl, rfl, rfl⟩
    all_goals cases serves
  travel := by intro f; cases f <;> decide
  timers := by intro f; cases f <;> decide
  faults := by intro f; cases f <;> decide
  fresh := by intro h; cases h

theorem searchingOverRinse_line : searchingOverRinse.LineLaw where
  record := by
    intro f h
    cases f
    case f2 => exact ⟨_, rfl, rfl⟩
    all_goals cases h
  clean := by
    intro r h
    cases h
    exact
      { cleaning := rfl, stopHeld := by decide, held := by decide, place := .inl ⟨_, rfl, rfl, rfl⟩, target := rfl
        running := by decide, waiting := fun _ h => absurd h (by decide), slotless := fun _ _ _ => rfl }
  pump := ⟨fun h => (nomatch h), fun ⟨_, clean, run⟩ => by cases clean; cases run⟩

theorem searchingOverRinse_work : searchingOverRinse.WorkLaw where
  quiet := (quiet_iff _).2 (by decide)
  bank := ⟨(queueLaw_iff _).2 (by decide), fun h => nomatch h⟩
  evaluated := by unfold State.Evaluated; decide
  drive := searchingOverRinse_drive
  assignment := searchingOverRinse_assignment
  line := searchingOverRinse_line

/-- The selector of the clean settles without a slot over another stop than 6, and its filter has its assignment. -/
def settlesElsewhere (t : State) (f : FilterId) : Bool :=
  (t.line.clean.map LineRecord.filter == some f) && ((t.channels.get f).state == .settling) && !t.slots.holds f &&
    (t.filters.get f).circuit.isSome && ((t.channels.get f).settleStop != some .rinse)

theorem settlesElsewhere_not_lineLaw {t : State} {f : FilterId} (h : settlesElsewhere t f = true) : ¬ t.LineLaw := by
  simp only [settlesElsewhere, Bool.and_eq_true, beq_iff_eq, bne_iff_ne, Bool.not_eq_true'] at h
  obtain ⟨⟨⟨⟨onLine, settles⟩, slotless⟩, assigned⟩, elsewhere⟩ := h
  obtain ⟨r, clean, rfl⟩ := Option.map_eq_some_iff.1 onLine
  exact fun law => elsewhere ((law.clean r clean).slotless settles slotless assigned)

theorem searchingOverRinse_step :
    after (.homeEdgeConfirmed .f2 true) { searchingOverRinse with pending := [] } (settlesElsewhere · .f2) = true := by
  decide +kernel

/-- Refutes O60: the home edge that ends SEARCH breaks the law of the slotless settle at `searchingOverRinse`. -/
theorem not_workLawsAreKept : ¬ Obligations.WorkLawsAreKept := by
  unfold Obligations.WorkLawsAreKept
  intro kept
  have elsewhere := searchingOverRinse_step
  unfold after at elsewhere
  split at elsewhere
  next t taken =>
    obtain ⟨work, -⟩ := kept searchingOverRinse t searchingOverRinse_work taken
    exact settlesElsewhere_not_lineLaw elsewhere work.line
  next => cases elsewhere
  next => cases elsewhere

end Sys2Proof.Machine
end

section
/-! SUPPORT. What reports no homing to Plant Control (11 R203): the homings of the bank that are open stay open, the plant state
stands, and NOT_RUNNING stays as it was. -/

namespace Sys2Proof.Machine

variable {s t u : State} {f : FilterId}

/-- The steps of a pass change the Filter Table and what is due. -/
theorem State.passSteps_frame (s : State) :
    s.passSteps.state = { s with filters := s.passSteps.state.filters, due := s.passSteps.state.due } := by
  have framed {w : PassWork} {v : State} (h : w.state = { s with filters := w.state.filters, due := w.state.due })
      (k : v = { w.state with filters := v.filters, due := v.due }) : v = { s with filters := v.filters, due := v.due } :=
    k.trans (congrArg (fun x : State => { x with filters := v.filters, due := v.due }) h)
  refine PassWork.Kept.passSteps (s := s)
    (P := fun w => w.state = { s with filters := w.state.filters, due := w.state.due }) ?_ rfl
  refine ⟨fun w c b f _ h => framed h rfl, fun w c h => ?_, fun w c h => ?_, fun w c h => ?_, fun w c h => ?_⟩
  case refine_1 =>
    rcases w.transfer_cases c with e | ⟨f, -, k⟩
    · rw [e]; exact h
    · exact framed h k.2.1
  case refine_2 =>
    rcases w.unmark_cases c with e | ⟨f, -, e⟩
    · rw [e]; exact h
    · rw [e]; exact framed h rfl
  case refine_3 =>
    rcases w.release_cases c with e | ⟨f, ⟨-, e⟩ | ⟨-, k⟩⟩
    · rw [e]; exact h
    · rw [e]; exact framed h rfl
    · exact framed h k.2.1
  case refine_4 =>
    by_cases need : w.state.floorBlocked c = true ∨ w.state.hasCleaning c = true
    · rw [PassWork.clearCover_of_need need]; exact h
    · rw [PassWork.clearCover_of_none need]; exact framed h rfl

/-! ## Updates that report no homing -/

/-- The plant state, the open homings of the bank and every channel's NOT_RUNNING stand, and no filter has become HOMING. -/
def HomingsStand (s t : State) : Prop :=
  t.plant = s.plant ∧ t.bankHoming = s.bankHoming ∧
    (∀ c, (t.doses.get c).reasons.notRunning = (s.doses.get c).reasons.notRunning) ∧
    ∀ f, (t.filters.get f).state = .homing → (s.filters.get f).state = .homing

namespace HomingsStand

theorem aside (filters : t.filters = s.filters) (plant : t.plant = s.plant) (bank : t.bankHoming = s.bankHoming)
    (doses : t.doses = s.doses) : HomingsStand s t :=
  ⟨plant, bank, fun c => by rw [doses], fun f h => by rwa [filters] at h⟩

theorem refl (s : State) : HomingsStand s s := aside rfl rfl rfl rfl

theorem trans (h : HomingsStand s t) (k : HomingsStand t u) : HomingsStand s u := by
  obtain ⟨plant, bank, reasons, homing⟩ := h
  obtain ⟨plant', bank', reasons', homing'⟩ := k
  exact ⟨plant'.trans plant, bank'.trans bank, fun c => (reasons' c).trans (reasons c), fun f x => homing f (homing' f x)⟩

theorem queueOnly (h : QueueOnly s t) : HomingsStand s t :=
  aside h.filters (congrArg State.plant h :) (congrArg State.bankHoming h :) (congrArg State.doses h :)

theorem updFilter (s : State) (f : FilterId) {g : FilterRecord → FilterRecord}
    (hg : (g (s.filters.get f)).state = .homing → (s.filters.get f).state = .homing) : HomingsStand s (s.updFilter f g) := by
  refine ⟨rfl, rfl, fun _ => rfl, fun k h => ?_⟩
  rw [State.updFilter_filters, Bank.get_set] at h
  split at h
  · next e => rw [e]; exact hg h
  · exact h

theorem moveFilter (s : State) (f : FilterId) {st : FilterState} (hs : st ≠ .homing) (g : FilterRecord → FilterRecord) :
    HomingsStand s (s.moveFilter f st g) := by
  refine trans (updFilter s f (g := fun r => (g r).enter st s.settings.dpHold) fun h => ?_) (aside rfl rfl rfl rfl)
  rw [FilterRecord.enter_state] at h
  exact absurd h hs

theorem post (s : State) (p : PortId) (n : Notice) : HomingsStand s (s.post p n) := aside rfl rfl rfl rfl
theorem needPass (s : State) : HomingsStand s s.needPass := aside rfl rfl rfl rfl

theorem postTo (s : State) (c : Option CircuitId) (n : Notice) : HomingsStand s (s.postTo c n) :=
  queueOnly (QueueOnly.postTo s c n)

theorem fileEntry (s : State) (f : FilterId) (r : Reasons) : HomingsStand s (s.fileEntry f r) :=
  queueOnly (QueueOnly.fileEntry s f r)

theorem checkLoads (s : State) (f : FilterId) : HomingsStand s (s.checkLoads f) := queueOnly (QueueOnly.checkLoads s f)

theorem loseCover (s : State) (c : Option CircuitId) : HomingsStand s (s.loseCover c) := by
  cases c with
  | none => exact refl s
  | some k =>
    refine ⟨rfl, rfl, fun _ => rfl, fun f h => ?_⟩
    rw [State.loseCover_record] at h
    split at h <;> exact h

theorem faultFilter (s : State) (f : FilterId) (kind : FaultKind) : HomingsStand s (s.faultFilter f kind) := by
  by_cases fault : (s.filters.get f).state = .fault
  · unfold State.faultFilter
    rw [if_pos fault]
    exact refl s
  · rw [State.faultFilter_eq fault]
    have moved := moveFilter s f (st := .fault) (by decide) fun r => r.faulted kind
    have recorded : HomingsStand s (s.faultRecorded f kind) := by
      unfold State.faultRecorded
      dsimp only
      refine HomingsStand.trans ?_ (aside rfl rfl rfl rfl)
      split
      · exact moved.trans (loseCover _ _)
      · exact moved
    exact recorded.trans ((post _ .plant .filterFault).trans ((postTo _ _ _).trans (needPass _)))

/-- The end of a homing that is not of the bank's, or was reported before, is no report. -/
theorem reportHoming (h : s.bankHoming.get f = false) : s.reportHoming f = s := by
  unfold State.reportHoming
  rw [h]
  rfl

/-- The end of a homing, whatever it is, is recorded in the Filter Table and then reported (01 R7). -/
theorem homingEnds (homing : (s.filters.get f).state = .homing) (o : TravelOutcome) :
    ∃ u, HomingsStand s u ∧ s.filterOutcome f o = u.reportHoming f := by
  have moved : HomingsStand s (s.moveFilter f .standby id) := moveFilter s f (by decide) id
  unfold State.filterOutcome
  split
  · refine ⟨(if (s.filters.get f).rinseOwed then
      (s.moveFilter f .standby id).fileEntry f { retry := true } else s.moveFilter f .standby id).needPass,
      HomingsStand.trans ?_ (needPass _), ?_⟩
    · split
      · exact moved.trans (fileEntry _ f _)
      · exact moved
    · unfold State.filterArrived
      rw [homing]
      rfl
  · next kind _ =>
    dsimp only
    rw [if_pos homing]
    exact ⟨_, faultFilter s f kind, rfl⟩

/-- The Filter Table reports the end of a travel only for a HOMING filter of the bank's homing. -/
theorem filterOutcome (h : s.bankHoming.get f = false ∨ (s.filters.get f).state ≠ .homing) (o : TravelOutcome) :
    HomingsStand s (s.filterOutcome f o) := by
  by_cases homing : (s.filters.get f).state = .homing
  · obtain ⟨u, stands, ends⟩ := homingEnds homing o
    rw [ends, reportHoming (by rw [stands.2.1]; exact h.resolve_right fun k => k homing)]
    exact stands
  have enter {st : FilterState} (hs : st ≠ .homing) : HomingsStand s (s.moveFilter f st id) := moveFilter s f hs id
  unfold State.filterOutcome
  split
  · unfold State.filterArrived
    split
    · exact (enter (by decide)).trans ((postTo _ _ _).trans ((checkLoads _ f).trans (needPass _)))
    · exact (enter (by decide)).trans (needPass _)
    · exact enter (by decide)
    · next here => exact absurd here homing
    all_goals exact refl s
  · dsimp only
    rw [if_neg homing]
    exact faultFilter s f _

/-! ### The Line between its travels -/

theorem lineIdle (s : State) : HomingsStand s s.lineIdle := aside rfl rfl rfl rfl

theorem afterClean (s : State) (f : FilterId) (o : CleanOutcome) : HomingsStand s (s.updFilter f fun x => x.afterClean o) := by
  refine updFilter s f fun h => ?_
  unfold FilterRecord.afterClean at h
  split at h <;> exact h

theorem faultClean (s : State) (r : LineRecord) (kind : FaultKind) : HomingsStand s (s.faultClean r kind) :=
  HomingsStand.trans (t := s.setPump false) (aside rfl rfl rfl rfl)
    ((afterClean _ _ _).trans ((faultFilter _ _ kind).trans ((postTo _ _ _).trans (lineIdle _))))

theorem endClean (s : State) (r : LineRecord) : HomingsStand s (s.endClean r) := by
  unfold State.endClean
  split
  · exact (updFilter s r.filter (g := fun x => { x with lastOutcome := r.outcome.orAborted }) id).trans
      ((faultFilter _ _ .unrinsed).trans ((postTo _ _ _).trans (lineIdle _)))
  · have returned (u : State) : HomingsStand u (u.returnFilter r) := by
      unfold State.returnFilter
      split
      · exact (moveFilter u r.filter (by decide) _).trans (postTo _ _ _)
      · exact (moveFilter u r.filter (by decide) _).trans (postTo _ _ _)
    have checked (u : State) : HomingsStand u (u.checkLoadsInService r.filter) := by
      unfold State.checkLoadsInService
      split
      · exact checkLoads u _
      · exact refl u
    unfold State.endReturned
    dsimp only
    refine HomingsStand.trans ?_ ((checked _).trans ((postTo _ _ _).trans (lineIdle _)))
    split
    · exact (afterClean s r.filter r.outcome).trans ((returned _).trans (fileEntry _ _ _))
    · exact (afterClean s r.filter r.outcome).trans (returned _)

theorem lineOutcome (s : State) (f : FilterId) (o : TravelOutcome) : HomingsStand s (s.lineOutcome f o) := by
  have arrive (r : LineRecord) (p : Phase) : HomingsStand s (s.arriveRun r p) := by
    unfold State.arriveRun
    split <;> exact aside rfl rfl rfl rfl
  unfold State.lineOutcome
  split
  · exact refl s
  · next r _ =>
    split
    · split
      · unfold State.lineArrived
        split
        · exact arrive r _
        · exact arrive r _
        · exact endClean s r
        · split
          · exact endClean s r
          · exact refl s
        all_goals exact refl s
      · exact faultClean s r _
    · exact refl s

/-! ### Passes and path states -/

theorem passSteps (s : State) : HomingsStand s s.passSteps.state := by
  have track (g : FilterId) (h : (s.passSteps.state.filters.get g).state = .homing) : (s.filters.get g).state = .homing := by
    obtain ⟨-, same | ⟨-, joins | leaves⟩⟩ := s.passSteps_tracks.2 g
    · exact same.symm.trans h
    · exact nomatch joins.symm.trans h
    · exact nomatch leaves.symm.trans h
  rw [State.passSteps_frame] at track ⊢
  exact ⟨rfl, rfl, fun _ => rfl, track⟩

theorem evalPath (s : State) (c : CircuitId) : HomingsStand s (s.evalPath c) := by
  unfold State.evalPath
  dsimp only
  split
  · exact refl s
  · generalize changed : State.post { s with pathOpen := s.pathOpen.set c (s.hasPath c) } (.circuit c)
      (if s.hasPath c = true then .pathRestored else .pathLost) = v
    have posted : HomingsStand s v := by
      rw [← changed]
      exact aside rfl rfl rfl rfl
    refine posted.trans ⟨by simp, by simp, fun d => ?_, fun f h => by rwa [State.formReasons_filters] at h⟩
    rw [State.formReasons_reasons]
    split
    · next e => rw [e]
    · rfl

theorem evalPaths (s : State) : HomingsStand s s.evalPaths := by
  unfold State.evalPaths
  generalize allCircuits = l
  induction l generalizing s with
  | nil => exact refl s
  | cons c l ih => exact (evalPath s c).trans (ih _)

end HomingsStand

end Sys2Proof.Machine
end

section
/-! SUPPORT. The travels that start or end in the reactions of an event report no homing, where none that waits for a slot does:
a pass asks for travels of JOINING and LEAVING filters, and the Line's travels end at the Line. -/

namespace Sys2Proof.Machine

variable {a s t : State} {f : FilterId} {q : Requester}

theorem SameDrive.lineOutcome (s : State) (f : FilterId) (o : TravelOutcome) : SameDrive s (s.lineOutcome f o) := by
  have ended (u : State) (r : LineRecord) (n : Notice) (h : SameDrive s u) : SameDrive s (u.postTo r.startCircuit n).lineIdle :=
    h.trans ((SameDrive.postTo u _ n).trans (.lineIdle _))
  have finish (r : LineRecord) : SameDrive s (s.endClean r) := by
    unfold State.endClean
    split
    · exact ended _ r _ (SameDrive.trans (.updFilter s r.filter _) (.faultFilter _ r.filter .unrinsed))
    · exact SameDrive.endReturned s r
  have arrive (r : LineRecord) (p : Phase) : SameDrive s (s.arriveRun r p) := by
    unfold State.arriveRun
    split <;> exact refl s
  unfold State.lineOutcome
  split
  · exact refl s
  · next r _ =>
    split
    · split
      · unfold State.lineArrived
        split
        · exact arrive r _
        · exact arrive r _
        · exact finish r
        · split
          · exact finish r
          · exact refl s
        all_goals exact refl s
      · next kind _ =>
        exact ended _ r _ (SameDrive.trans (.trans (.setPump s false) (.updFilter _ r.filter _)) (.faultFilter _ r.filter kind))
    · exact refl s

theorem SameDrive.passSteps (s : State) : SameDrive s s.passSteps.state :=
  have e := s.passSteps_frame
  ⟨(congrArg State.channels e :), (congrArg State.requests e :), (congrArg State.travelQueue e :), (congrArg State.slots e :),
    (congrArg State.surge e :), (congrArg State.stopActive e :), (congrArg State.settings e :)⟩

/-- The end of a travel of the filter for a requester reports no homing of the bank that is still open. -/
def State.Unreports (s : State) (f : FilterId) (q : Requester) : Prop :=
  q = .backwashLine ∨ s.bankHoming.get f = false ∨ (s.filters.get f).state ≠ .homing

/-- The end of the filter's present travel reports no homing. -/
def State.EndsUnreported (s : State) (f : FilterId) : Prop := ∀ r, s.requests.get f = some r → s.Unreports f r.requester

theorem State.Unreports.kept (h : s.Unreports f q) (k : HomingsStand s t) : t.Unreports f q := by
  obtain ⟨-, bank, -, homing⟩ := k
  unfold State.Unreports
  rw [bank]
  exact h.imp_right (Or.imp_right fun not x => not (homing f x))

theorem State.EndsUnreported.kept (h : s.EndsUnreported f) (k : HomingsStand s t) (e : t.requests.get f = s.requests.get f) :
    t.EndsUnreported f := by
  intro r hr
  rw [e] at hr
  exact (h r hr).kept k

/-- Since `a` no homing has been reported, and none can be by a travel that waits for a slot. -/
def ReportsNone (a t : State) : Prop :=
  HomingsStand a t ∧ (t.pauseCondition = true ∨ ∀ f ∈ t.travelQueue, t.EndsUnreported f)

namespace ReportsNone

/-- What changes neither the travels nor the conditions that hold them up. -/
theorem steady (h : ReportsNone a s) (k : HomingsStand s t) (d : SameDrive s t) : ReportsNone a t := by
  refine ⟨h.1.trans k, ?_⟩
  rw [d.pauseCondition, d.travelQueue]
  exact h.2.imp_right fun waits f m => (waits f m).kept k (by rw [d.requests])

theorem queueOnly (h : ReportsNone a s) (k : QueueOnly s t) : ReportsNone a t :=
  h.steady (HomingsStand.queueOnly k) (SameDrive.queueOnly k)

theorem filterChanged (h : ReportsNone a s) : ReportsNone a s.filterChanged := h.queueOnly (QueueOnly.withDue _ _)

theorem updChannel (h : ReportsNone a s) (f : FilterId) (g : Channel → Channel) : ReportsNone a (s.updChannel f g) := h

theorem setRequest (h : ReportsNone a s) {x : Option TravelRequest} (k : ∀ r, x = some r → s.Unreports f r.requester) :
    ReportsNone a (s.setRequest f x) := by
  refine ⟨h.1, h.2.imp_right fun waits g m r hr => ?_⟩
  rw [State.setRequest_requests, Bank.get_set] at hr
  split at hr
  · next e => rw [e]; exact k r hr
  · exact waits g m r hr

theorem withTravelQueue (h : ReportsNone a s) {l : List FilterId}
    (k : ∀ g ∈ l, g ∈ s.travelQueue ∨ s.EndsUnreported g) : ReportsNone a { s with travelQueue := l } :=
  ⟨h.1, h.2.imp_right fun waits g m => (k g m).elim (waits g) id⟩

/-- A request that is filed as WAITING at the back of the travel queue. -/
theorem joinQueue (h : ReportsNone a s) {r : TravelRequest} (k : s.Unreports f r.requester) (g : Channel → Channel) :
    ReportsNone a { (s.setRequest f (some r)).updChannel f g with travelQueue := s.travelQueue ++ [f] } := by
  have asked : ReportsNone a ((s.setRequest f (some r)).updChannel f g) :=
    (setRequest h fun x e => by cases e; exact k).updChannel f g
  refine asked.withTravelQueue fun x m => ?_
  rcases List.mem_append.1 m with m | m
  · exact .inl m
  · rw [List.mem_singleton.1 m]
    refine .inr fun y hy => ?_
    cases (Bank.get_set_same ..).symm.trans hy
    exact k

theorem withSlots (h : ReportsNone a s) (k : Slots) : ReportsNone a { s with slots := k } := h

theorem deliver (h : ReportsNone a s) (k : s.Unreports f q) (o : TravelOutcome) : ReportsNone a (s.deliver q f o) := by
  cases q with
  | backwashLine => exact h.steady (HomingsStand.lineOutcome s f o) (SameDrive.lineOutcome s f o)
  | allocator | maintenance | homing =>
    exact h.steady (HomingsStand.filterOutcome (k.resolve_left (by decide)) o) (SameDrive.filterOutcome s f o)

/-! ### Travels -/

theorem finishTravel (h : ReportsNone a s) (k : s.EndsUnreported f) (o : TravelOutcome) :
    ReportsNone a (s.finishTravel f o) := by
  have discarded : ReportsNone a ((s.updChannel f fun ch => ch.ended o).setRequest f none) :=
    setRequest (h.updChannel f _) fun _ e => nomatch e
  have cleared : ReportsNone a (s.travelCleared f o) :=
    (discarded.withSlots (s.slots.release f)).withTravelQueue fun g m => .inl (List.mem_of_mem_filter m)
  cases hr : s.requests.get f with
  | none =>
    unfold State.finishTravel
    dsimp only
    rw [hr]
    exact cleared
  | some r =>
    rw [State.finishTravel_eq hr]
    exact cleared.deliver (k r hr) o

theorem afterStart (h : ReportsNone a s) (k : s.EndsUnreported f) (x : Channel × Option TravelOutcome) :
    ReportsNone a (s.afterStart f x) := by
  unfold State.afterStart
  dsimp only
  split
  · exact h.updChannel f _
  · exact (h.updChannel f _).finishTravel k _

theorem startAny (h : ReportsNone a s) (k : s.EndsUnreported f) (stop : Stop) : ReportsNone a (s.startAny f stop) := by
  unfold State.startAny
  split <;> exact h.afterStart k _

theorem seatConfirmed (h : ReportsNone a s) (k : s.EndsUnreported f) : ReportsNone a (s.seatConfirmed f) := by
  unfold State.seatConfirmed
  split
  · exact h
  · next r hr =>
    dsimp only
    split
    · exact (h.updChannel f _).finishTravel k _
    · split
      · exact ((h.updChannel f _).updChannel f _).afterStart k _
      · exact joinQueue ((h.updChannel f _).updChannel f _) (r := { r with active := false }) (k r hr) _

theorem enterSettling (h : ReportsNone a s) (k : s.EndsUnreported f) (stop : Stop) :
    ReportsNone a (s.enterSettling f stop) := by
  unfold State.enterSettling
  dsimp only
  split
  · exact (h.updChannel f _).seatConfirmed k
  · exact h.updChannel f _

theorem giveSlot (h : ReportsNone a s) (k : s.EndsUnreported f) : ReportsNone a (s.giveSlot f) := by
  unfold State.giveSlot
  split
  · exact h
  · next r hr =>
    have active : ∀ x, some { r with active := true } = some x → s.Unreports f x.requester :=
      fun x e => by cases e; exact k r hr
    have ends : (s.setRequest f (some { r with active := true })).EndsUnreported f :=
      fun x hx => active x (by rw [← hx]; exact (Bank.get_set_same ..).symm)
    have given := ((setRequest h active).updChannel f fun ch =>
      { ch with profile := s.settings.profile, slowLatch := false }).withSlots (s.slots.take f)
    dsimp only
    split
    · exact (given.updChannel f Channel.prepareHoming).startAny ends _
    · split
      · exact given.enterSettling ends _
      · exact given.afterStart ends _

theorem handOutUpTo (n : Nat) (h : ReportsNone a s) : ReportsNone a (State.handOutUpTo n s) := by
  induction n generalizing s with
  | zero => exact h
  | succ n ih =>
    unfold State.handOutUpTo
    split
    · exact h
    · next f rest hq =>
      split
      · next free =>
        have runs : ¬ s.pauseCondition = true := by
          simp only [Bool.and_eq_true, Bool.not_eq_true'] at free
          simp [free.2]
        have waits := h.2.resolve_left runs
        rw [hq] at waits
        have rest : ReportsNone a { s with travelQueue := rest } :=
          h.withTravelQueue fun g m => .inr (waits g (List.mem_cons_of_mem _ m))
        exact ih (giveSlot rest (waits f List.mem_cons_self))
      · exact h

theorem handOut (h : ReportsNone a s) : ReportsNone a s.handOut := h.handOutUpTo _

theorem fileTravel (h : ReportsNone a s) (k : s.Unreports f q) (stop : Stop) : ReportsNone a (s.fileTravel f stop q) := by
  have filed {r : TravelRequest} (e : r.requester = q) : ReportsNone a (s.setRequest f (some r)) ∧
      (s.setRequest f (some r)).EndsUnreported f := by
    refine ⟨h.setRequest fun x e' => by cases e'; rw [e]; exact k, fun x hx => ?_⟩
    cases (Bank.get_set_same ..).symm.trans hx
    rw [e]
    exact k
  have waits : ReportsNone a (s.fileWaiting f stop q) :=
    handOut (joinQueue h (r := { target := stop, requester := q, active := false }) k _)
  unfold State.fileTravel
  split
  · next r _ =>
    obtain ⟨asked, -⟩ := filed (r := { r with target := stop, requester := q }) rfl
    unfold State.retarget
    dsimp only
    split
    · exact asked
    · exact asked.updChannel f _
  · split
    · split
      · exact waits
      · exact h.deliver k _
    · split
      · obtain ⟨asked, ends⟩ := filed (r := { target := stop, requester := q, active := true }) rfl
        exact asked.enterSettling ends stop
      · exact waits

/-! ### Passes, the grant and the end of an event -/

theorem foldl {α : Type} {g : State → α → State} (hg : ∀ (s : State) (x : α), ReportsNone a s → ReportsNone a (g s x))
    (l : List α) (h : ReportsNone a s) : ReportsNone a (l.foldl g s) := by
  induction l generalizing s with
  | nil => exact h
  | cons x l ih => exact ih (hg s x h)

theorem refreshReturn (h : ReportsNone a s) : ReportsNone a s.refreshReturn := by
  unfold State.refreshReturn
  split
  · exact h
  · next r _ =>
    have cleaned : ReportsNone a (s.setClean (some { r with returnTarget := s.returnTargetOf r })) := h
    dsimp only
    split
    · exact h
    · split
      · exact cleaned.fileTravel (.inl rfl) _
      · exact cleaned

theorem filePassTravel (h : ReportsNone a s) (f : FilterId) : ReportsNone a (s.filePassTravel f) := by
  unfold State.filePassTravel
  split
  · next joining _ => exact h.fileTravel (.inr (.inr (by rw [joining]; decide))) _
  · next leaving => exact h.fileTravel (.inr (.inr (by rw [leaving]; decide))) _
  · exact h

theorem takePass (h : ReportsNone a s) : ReportsNone a s.takePass := by
  unfold State.takePass
  split
  · have steps : ReportsNone a s.passSteps.state := h.steady (HomingsStand.passSteps s) (SameDrive.passSteps s)
    have travels := foldl (fun _ f k => filePassTravel k f) s.passSteps.changed steps.refreshReturn
    have told := foldl (fun t c k => k.queueOnly (QueueOnly.post t (.circuit c) .filterLeft)) s.passSteps.left travels
    exact filterChanged told
  · exact h

theorem tryGrant (h : ReportsNone a s) : ReportsNone a s.tryGrant := by
  unfold State.tryGrant
  split
  · split
    · exact h
    · next e _ =>
      have moved : ReportsNone a ((({ s with due := { s.due with granted := true } } : State).setQueue
          (removeEntry s.queue e.filter)).setClean (some (State.newClean { s with due := { s.due with granted := true } } e))
          |>.moveFilter e.filter .cleaning fun r => { r with releaseOnReturn := false }) :=
        h.steady (HomingsStand.trans (HomingsStand.aside rfl rfl rfl rfl) (HomingsStand.moveFilter _ _ (by decide) _))
          (SameDrive.refl s)
      exact (moved.queueOnly (QueueOnly.postTo _ _ _)).fileTravel (.inl rfl) _
  · exact h

theorem settle (b : Bool) (n : Nat) (h : ReportsNone a s) : ReportsNone a (State.settle b n s) := by
  induction n generalizing s with
  | zero => exact h
  | succ n ih =>
    unfold State.settle
    split
    · refine ih ?_
      split
      · exact takePass (h.queueOnly rfl)
      · exact h.queueOnly rfl
    · split
      · exact ih (queueOnly (h.queueOnly (QueueOnly.withDue s _)) (QueueOnly.evaluateQueue _))
      · split
        · exact ih (tryGrant (h.queueOnly rfl))
        · exact h

/-- The end of an event reports no homing. -/
theorem finishEvent (h : ReportsNone a s) : ReportsNone a s.finishEvent :=
  have settled := settle false Config.settleRounds (settle true Config.settleRounds h)
  (settled.steady (HomingsStand.evalPaths _) (Settles.evalPaths _).sameDrive).queueOnly rfl

end ReportsNone

end Sys2Proof.Machine
end

section
/-! O56: the end of a homing travel, its report to Plant Control and the reactions of its event. -/

namespace Sys2Proof.Machine

variable {s t u a : State} {f : FilterId}

/-- What Plant Control has taken of the end of a filter's homing: the last of the bank enters RUNNING (11 R203). -/
def State.HomingReported (s t : State) (f : FilterId) : Prop :=
  let others := ∃ g, g ≠ f ∧ s.bankHoming.get g = true
  (s.bankHoming.get f = true → ¬ others → t.plant = .running ∧ (∀ g, t.bankHoming.get g = false) ∧
    (t.ports.get .plant).hasNotice .homingDone = true ∧ ∀ c, (t.doses.get c).reasons.notRunning = false) ∧
  (s.bankHoming.get f = true → others → t.plant = s.plant ∧ t.bankHoming = s.bankHoming.set f false) ∧
  (s.bankHoming.get f = false → t.plant = s.plant ∧ t.bankHoming = s.bankHoming)

/-- The entry to RUNNING: the plant state, the notice and the reasons (11 R203); the rest stands. -/
theorem State.enterRunning_enters (s : State) :
    s.enterRunning.plant = .running ∧ (s.enterRunning.bankHoming = s.bankHoming ∧ s.enterRunning.filters = s.filters ∧
      s.enterRunning.queue = s.queue) ∧ (s.enterRunning.ports.get .plant).hasNotice .homingDone = true ∧
      ∀ c, (s.enterRunning.doses.get c).reasons.notRunning = false := by
  have posted := State.post_notice { s with plant := .running } .plant .homingDone
  have formed : s.enterRunning = ((State.post { s with plant := .running } .plant .homingDone).formAllReasons fun r =>
      { r with notRunning := false }).needPass.filterChanged := rfl
  have stands : (State.post { s with plant := .running } .plant .homingDone).plant = .running ∧
      (State.post { s with plant := .running } .plant .homingDone).bankHoming = s.bankHoming ∧
      (State.post { s with plant := .running } .plant .homingDone).filters = s.filters ∧
      (State.post { s with plant := .running } .plant .homingDone).queue = s.queue := ⟨rfl, rfl, rfl, rfl⟩
  rw [formed]
  generalize State.post { s with plant := .running } .plant .homingDone = v at posted stands
  obtain ⟨plant, bank, filters, queue⟩ := stands
  obtain ⟨ds, ps, frame⟩ := v.formAllReasons_frame fun r => { r with notRunning := false }
  have reasons := v.formAllReasons_reasons fun r => { r with notRunning := false }
  have notices := ((v.formAllReasons_undisturbed (fun r => { r with notRunning := false }) fun _ => rfl).ports .plant).notices
    .homingDone posted
  generalize v.formAllReasons (fun r => { r with notRunning := false }) = w at frame reasons notices
  exact ⟨(congrArg State.plant frame :).trans plant, ⟨(congrArg State.bankHoming frame :).trans bank,
    (congrArg State.filters frame :).trans filters, (congrArg State.queue frame :).trans queue⟩, notices,
    fun c => (congrArg Interlocks.notRunning (reasons c) :)⟩

theorem Bank.all_false_iff (b : Bank Bool) : b = Bank.all false ↔ ∀ g, b.get g = false := by
  refine ⟨fun h g => by rw [h]; cases g <;> rfl, fun h => ?_⟩
  exact Bank.ext_get fun g => (h g).trans (by cases g <;> rfl)

/-- The report of a homing's end, on a state where none was reported before. -/
theorem HomingsStand.reported (h : HomingsStand s u) : s.HomingReported (u.reportHoming f) f := by
  obtain ⟨plant, bank, -, -⟩ := h
  have left (g : FilterId) : (s.bankHoming.set f false).get g = true ↔ g ≠ f ∧ s.bankHoming.get g = true := by
    rw [Bank.get_set]
    split <;> simp_all
  unfold State.HomingReported State.reportHoming
  rw [bank]
  refine ⟨fun its alone => ?_, fun its others => ?_, fun notIts => ?_⟩
  · have last : s.bankHoming.set f false = Bank.all false :=
      (Bank.all_false_iff _).2 fun g => by
        rw [← Bool.not_eq_true, left]
        exact fun other => alone ⟨g, other⟩
    rw [if_pos its]
    dsimp only
    rw [if_pos last]
    obtain ⟨running, ⟨none, -⟩, notice, reasons⟩ := State.enterRunning_enters { u with bankHoming := s.bankHoming.set f false }
    exact ⟨running, by rw [none]; exact (Bank.all_false_iff _).1 last, notice, reasons⟩
  · obtain ⟨g, other⟩ := others
    have more : s.bankHoming.set f false ≠ Bank.all false := fun none => by
      rw [Bank.all_false_iff] at none
      exact absurd ((left g).2 other) (by rw [none]; decide)
    rw [if_pos its]
    dsimp only
    rw [if_neg more]
    exact ⟨plant, rfl⟩
  · rw [if_neg (by simp [notIts])]
    exact ⟨plant, bank⟩

/-- The report stands to the end of an event in which no other homing is reported. -/
theorem State.HomingReported.stands (h : s.HomingReported a f) (k : ReportsNone a t) (r : Reacts a t) :
    s.HomingReported t f := by
  obtain ⟨⟨plant, bank, reasons, -⟩, -⟩ := k
  obtain ⟨last, others, notIts⟩ := h
  refine ⟨fun its alone => ?_, ?_, ?_⟩
  · obtain ⟨running, none, notice, gone⟩ := last its alone
    exact ⟨plant.trans running, by rw [bank]; exact none, r.notice notice, fun c => (reasons c).trans (gone c)⟩
  · rw [plant, bank]
    exact others
  · rw [plant, bank]
    exact notIts

/-- No travel waits, or none is handed a slot. -/
def State.Unasked (s : State) : Prop := s.travelQueue = [] ∨ s.pauseCondition = true

theorem State.Unasked.sameDrive (h : s.Unasked) (k : SameDrive s t) : t.Unasked := by
  unfold State.Unasked
  rw [k.travelQueue, k.pauseCondition]
  exact h

theorem State.Unasked.reportsNone (h : s.Unasked) : ReportsNone s s :=
  ⟨.refl s, h.elim (fun none => .inr fun g m => by rw [none] at m; cases m) .inl⟩

/-- A travel that ends leaves no more travels waiting. -/
theorem State.Unasked.travelCleared (h : s.Unasked) (o : TravelOutcome) : (s.travelCleared f o).Unasked :=
  h.imp_left fun none => by
    show s.travelQueue.filter _ = []
    rw [none]
    rfl

theorem HomingsStand.travelCleared (s : State) (f : FilterId) (o : TravelOutcome) : HomingsStand s (s.travelCleared f o) :=
  aside rfl rfl rfl rfl

/-- The end of a homing is reported whatever it is, and no other in its event (01 R7, 11 R203). -/
theorem State.homingEnds_reported (stands : HomingsStand s u) (homing : (u.filters.get f).state = .homing) (unasked : u.Unasked)
    (o : TravelOutcome) : s.HomingReported (u.filterOutcome f o).handOut.finishEvent f := by
  obtain ⟨v, recorded, ends⟩ := HomingsStand.homingEnds homing o
  have unasked' : (u.filterOutcome f o).Unasked := unasked.sameDrive (SameDrive.filterOutcome u f o)
  have reported : s.HomingReported (u.filterOutcome f o) f := by
    rw [ends]
    exact (stands.trans recorded).reported
  exact reported.stands unasked'.reportsNone.handOut.finishEvent (Reacts.refl _).handOut.finishEvent

/-- A report changes no filter and no entry. -/
theorem State.reportHoming_keeps (s : State) (f : FilterId) :
    (s.reportHoming f).filters = s.filters ∧ (s.reportHoming f).queue = s.queue := by
  unfold State.reportHoming
  split
  · dsimp only
    split
    · exact (State.enterRunning_enters { s with bankHoming := s.bankHoming.set f false }).2.1.2
    · exact ⟨rfl, rfl⟩
  · exact ⟨rfl, rfl⟩

/-- A HOMING filter's arrival before its report: STANDBY, and filed with RETRY if it owes a rinse (01 R7). -/
def State.homed (s : State) (f : FilterId) : State :=
  if (s.filters.get f).rinseOwed then (s.moveFilter f .standby id).fileEntry f { retry := true }
  else s.moveFilter f .standby id

theorem State.arriveHoming_eq (s : State) (f : FilterId) : s.arriveHoming f = (s.homed f).needPass.reportHoming f := rfl

theorem State.homed_record (s : State) (f : FilterId) : (s.homed f).filters.get f = (s.filters.get f).outside .standby := by
  have moved : (s.moveFilter f .standby id).filters.get f = (s.filters.get f).outside .standby :=
    (s.moveFilter_record f .standby id).trans (FilterRecord.enter_outside _ (by decide) _)
  unfold State.homed
  split
  · rw [State.fileEntry_filters]
    exact moved
  · exact moved

/-- The arrival files the filter at the back of the queue exactly where it owes a rinse. -/
theorem State.homed_entries (law : s.QueueLaw) (homing : (s.filters.get f).state = .homing) :
    ((s.homed f).queue.map QueueEntry.filter).Nodup ∧
      ((s.filters.get f).rinseOwed = false → (s.homed f).entries = s.entries) ∧
      ((s.filters.get f).rinseOwed = true → (s.homed f).entries = s.entries ++ [(f, { retry := true })]) := by
  unfold State.homed
  cases owes : (s.filters.get f).rinseOwed with
  | false => exact ⟨law.distinct, fun _ => rfl, fun h => (nomatch h)⟩
  | true =>
    have may : ((s.moveFilter f .standby id).filters.get f).state.mayQueue = true := by
      rw [State.moveFilter_record, FilterRecord.enter_state]
      rfl
    have none : (s.moveFilter f .standby id).entryOf f = none := by
      refine List.find?_eq_none.2 fun e mem => ?_
      have its : e.filter ≠ f := fun same => by
        have queued := law.states e mem
        rw [same, homing] at queued
        cases queued
      simpa using its
    refine ⟨State.fileEntry_distinct _ f _ law.distinct, fun h => (nomatch h), fun _ => ?_⟩
    rw [if_pos rfl]
    unfold State.entries
    rw [State.fileEntry_new may none]
    exact insertEntry_entries law.order _

/-- The travel of a HOMING filter has ended at its target and no pass is taken: what stands at the end of the event. -/
theorem State.arriveHoming_held (homing : (s.filters.get f).state = .homing) (unasked : s.Unasked)
    (dormant : (s.filterOutcome f .arrived).Dormant) :
    let t := (s.filterOutcome f .arrived).handOut.finishEvent
    t.filters.get f = (s.filters.get f).outside .standby ∧ t.requests = s.requests ∧ t.channels = s.channels ∧
      (s.QueueLaw →
        ((s.filters.get f).rinseOwed = false → t.entries = s.entries) ∧
        ((s.filters.get f).rinseOwed = true → t.entries = s.entries ++ [(f, { retry := true })])) := by
  intro t
  have drive := SameDrive.filterOutcome s f .arrived
  have arrives : s.filterOutcome f .arrived = (s.homed f).needPass.reportHoming f := by
    unfold State.filterOutcome TravelOutcome.fault State.filterArrived
    dsimp only
    rw [homing]
    exact s.arriveHoming_eq f
  obtain ⟨filters, queue⟩ := State.reportHoming_keeps (s.homed f).needPass f
  rw [← arrives] at filters queue
  have settles : Settles (s.filterOutcome f .arrived) t := by
    have held := unasked.sameDrive drive
    have none : (s.filterOutcome f .arrived).handOut = s.filterOutcome f .arrived := State.NoHandOut.handOut (.inr held)
    have settled := dormant.finishEvent
    rw [← none] at settled
    exact Settles.trans (by rw [none]; exact .refl _) settled
  refine ⟨?_, settles.requests.trans drive.requests, settles.channels.trans drive.channels, fun law => ?_⟩
  · rw [settles.filters, filters]
    exact s.homed_record f
  · obtain ⟨distinct, unowed, owed⟩ := State.homed_entries law homing
    have entries : t.entries = (s.homed f).entries := by
      refine (settles.entries (by rw [queue]; exact distinct)).trans ?_
      unfold State.entries
      rw [queue]
      rfl
    rw [entries]
    exact ⟨unowed, owed⟩

/-- Where plant stop is active, or others of the bank are still homing, no pass follows the arrival. -/
theorem State.homing_dormant (stop : t.stopActive = s.stopActive) (reported : s.HomingReported t f)
    (held : s.stopActive = true ∨ (s.plant = .homing ∧ s.bankHoming.get f = true ∧
      ∃ g, g ≠ f ∧ s.bankHoming.get g = true)) : t.Dormant := by
  rcases held with stopped | ⟨homing, its, others⟩
  · exact .inl (stop.trans stopped)
  · refine .inr ?_
    rw [(reported.2.1 its others).1, homing]
    decide

end Sys2Proof.Machine
end

section
/-! O56: the end of a homing, by its arrival or by the settle timer. -/

namespace Sys2Proof.Machine

variable {s : State} {f : FilterId}

/-- A HOMING filter's travel ends POSITION_LOST where the settle timer expires, and its end is reported. -/
theorem State.settleTimeout_homing {q : TravelRequest} (homing : (s.filters.get f).state = .homing)
    (request : s.requests.get f = some q) (requester : q.requester = .homing)
    (settling : (s.channels.get f).state = .settling) (unasked : s.Unasked) (line : ∀ r, s.line.clean = some r → r.filter ≠ f)
    (runs : (s.channels.get f).settleTimer.isSome = true) :
    ∃ t, exec (.settleTimeout f) s = .next t ∧ s.Undisturbed t ∧ s.HomingReported t f ∧
      t.filters.get f = (s.filters.get f).inFault .positionLost := by
  have travels : s.Travels f := ⟨⟨q, request, by rw [requester]; decide⟩, by rw [homing]; decide, line⟩
  have failed := (State.finishTravel_failed (o := .positionLost) travels rfl).1
  have ends : s.finishTravel f .positionLost = (s.travelCleared f .positionLost).filterOutcome f .positionLost := by
    rw [State.finishTravel_eq request, requester]
    rfl
  have reported := State.homingEnds_reported (HomingsStand.travelCleared s f .positionLost) homing
    (unasked.travelCleared .positionLost) .positionLost
  rw [← ends] at reported
  have follows : Reacts (s.finishTravel f .positionLost) (s.endTravel f .positionLost).finishEvent :=
    (Reacts.refl _).handOut.finishEvent
  refine ⟨(s.endTravel f .positionLost).finishEvent, ?_, ?_, reported, (failed.reacts follows).2.1⟩
  · exact congrArg (fun t : State => Host.Outcome.next t.finishEvent) (State.settleTimeout_lost settling runs)
  · exact ((Reacts.refl s).endTravel .positionLost (State.not_still_of_request request)).finishEvent.undisturbed

/-- The arrival of a HOMING filter is reported, and where no pass is taken the filter is in STANDBY, filed if it owes a rinse. -/
theorem State.homing_arrives {u : State} (stands : HomingsStand s u) (homing : (u.filters.get f).state = .homing)
    (unasked : u.Unasked) (stop : u.stopActive = s.stopActive) :
    let t := (u.filterOutcome f .arrived).handOut.finishEvent
    s.HomingReported t f ∧
      (s.stopActive = true ∨ (s.plant = .homing ∧ s.bankHoming.get f = true ∧ ∃ g, g ≠ f ∧ s.bankHoming.get g = true) →
        t.filters.get f = (u.filters.get f).outside .standby ∧ t.requests.get f = u.requests.get f ∧
        t.channels.get f = u.channels.get f ∧
        (u.QueueLaw →
          ((u.filters.get f).rinseOwed = false → t.entries = u.entries) ∧
          ((u.filters.get f).rinseOwed = true → t.entries = u.entries ++ [(f, { retry := true })]))) := by
  intro t
  refine ⟨State.homingEnds_reported stands homing unasked .arrived, fun held => ?_⟩
  obtain ⟨v, recorded, told⟩ := HomingsStand.homingEnds homing .arrived
  have dormant : (u.filterOutcome f .arrived).Dormant := by
    refine State.homing_dormant ((SameDrive.filterOutcome u f .arrived).stopActive.trans stop) ?_ held
    rw [told]
    exact (stands.trans recorded).reported
  obtain ⟨record, requests, channels, entries⟩ := State.arriveHoming_held homing unasked dormant
  exact ⟨record, congrArg (Bank.get · f) requests, congrArg (Bank.get · f) channels, entries⟩

/-- Settles O56: the outcome is recorded in the Filter Table and reported, and the event's reactions report no other homing. -/
theorem homingEndsAreReported : Obligations.HomingEndsAreReported := by
  unfold Obligations.HomingEndsAreReported
  intro s f q ch x homing request requester settling unasked line others reported
  refine ⟨State.settleTimeout_homing homing request requester settling unasked line, fun stop => ?_⟩
  have ends := State.detentClose_arrives request settling stop
  rw [State.deliver_filter (by rw [requester]; decide)] at ends
  have undisturbed := State.detentClose_undisturbed request
  rw [ends] at undisturbed
  have stands : HomingsStand s (s.seatTaken f q.target) := .aside rfl rfl rfl rfl
  have waits : (s.seatTaken f q.target).Unasked := State.Unasked.travelCleared (s := s.withChannel f _) unasked .arrived
  have seated : (s.seatTaken f q.target).channels.get f = ch.arrivedAt q.target := by
    rw [State.seatTaken_channel, Channel.seatedOver_ended]
  have noRequest := State.seatTaken_request s f q.target
  have same : (s.seatTaken f q.target).filters = s.filters ∧ (s.seatTaken f q.target).queue = s.queue ∧
      (s.seatTaken f q.target).stopActive = s.stopActive := ⟨rfl, rfl, rfl⟩
  generalize s.seatTaken f q.target = u at *
  obtain ⟨filters, queue, stopActive⟩ := same
  obtain ⟨report, held⟩ := State.homing_arrives stands (by rw [filters]; exact homing) waits stopActive
  refine ⟨_, congrArg (fun t : State => Host.Outcome.next t.finishEvent) ends, undisturbed, report, fun noPass => ?_⟩
  obtain ⟨record, request', channel, entries⟩ := held noPass
  rw [filters] at record entries
  have before : u.entries = s.entries := congrArg (List.map fun e : QueueEntry => (e.filter, e.reasons)) queue
  rw [before] at entries
  exact ⟨record, request'.trans noRequest, channel.trans seated, fun law =>
    entries ⟨by rw [filters, queue]; exact law.states, by rw [queue]; exact law.distinct, by rw [queue]; exact law.order⟩⟩

end Sys2Proof.Machine
end

end

section
/-! The proofs of the circuit flow and the filter loads (02) are elaborated one after another too. -/
set_option Elab.async false

section
/-! SUPPORT. Reasons raised for a filter (02 R40): what its entry holds after a filing (03 R48, R49), and under plant stop to
the end of the event. -/

namespace Sys2Proof.Machine

variable {s t : State} {f : FilterId} {p : Reasons → Bool}

/-! ## Raising a trigger -/

/-- A filter filed where a limit is reached (02 R40). -/
def State.fileIf (s : State) (reached : Prop) [Decidable reached] (f : FilterId) (rs : Reasons) : State :=
  if reached then s.fileEntry f rs else s

theorem State.checkThroughput_eq (s : State) (f : FilterId) : s.checkThroughput f =
    s.fileIf (s.settings.throughputLitres ≤ (s.filters.get f).throughput) f { throughput := true } := rfl

theorem State.checkRunTime_eq (s : State) (f : FilterId) : s.checkRunTime f =
    s.fileIf (s.settings.runTimeMinutes ≤ (s.filters.get f).runTime) f { runTime := true } := rfl

theorem QueueOnly.fileIf (s : State) (reached : Prop) [Decidable reached] (f : FilterId) (rs : Reasons) :
    QueueOnly s (s.fileIf reached f rs) := by
  unfold State.fileIf
  split
  · exact .fileEntry s f rs
  · exact .refl s

theorem State.fileIf_distinct (reached : Prop) [Decidable reached] (f : FilterId) (rs : Reasons)
    (distinct : (s.queue.map QueueEntry.filter).Nodup) :
    ((s.fileIf reached f rs).queue.map QueueEntry.filter).Nodup := by
  unfold State.fileIf
  split
  · exact State.fileEntry_distinct _ _ _ distinct
  · exact distinct

/-- Under plant stop the event that only changed the queue makes no pass and no grant. -/
theorem QueueOnly.settles (h : QueueOnly s t) (stopped : s.stopActive = true) : Settles t t.finishEvent :=
  State.Dormant.finishEvent (.inl ((congrArg State.stopActive h :).trans stopped))

/-! ## The reasons that a filter's entry holds -/

/-- The queue holds an entry of the filter with the reason that `p` reads. -/
def State.Holds (s : State) (f : FilterId) (p : Reasons → Bool) : Prop :=
  ∃ e ∈ s.queue, e.filter = f ∧ p e.reasons = true

/-- A test that reads one reason of a set. -/
def ReadsReason (p : Reasons → Bool) : Prop := ∀ a b : Reasons, p (a.union b) = (p a || p b)

/-- A filing leaves the filter with the reasons it had and those it was filed with. -/
theorem State.fileEntry_holds {rs : Reasons} (reads : ReadsReason p) (may : (s.filters.get f).state.mayQueue = true)
    (distinct : (s.queue.map QueueEntry.filter).Nodup) (h : p rs = true ∨ s.Holds f p) : (s.fileEntry f rs).Holds f p := by
  obtain ⟨e, found, reasons⟩ := State.fileEntry_entry rs may
  obtain ⟨mem, named⟩ := State.entryOf_some found
  refine ⟨e, mem, named, ?_⟩
  rw [reasons]
  cases old : s.entryOf f with
  | none => exact h.resolve_right fun ⟨x, there, same, _⟩ => State.entryOf_none old x there same
  | some x =>
    obtain ⟨there, same⟩ := State.entryOf_some old
    dsimp only
    rw [reads, Bool.or_eq_true]
    refine h.symm.imp_left fun ⟨y, there', same', holds⟩ => ?_
    rwa [List.inj_on_of_nodup_map distinct there there' (same.trans same'.symm)]

theorem State.fileIf_holds {reached : Prop} [Decidable reached] {rs : Reasons} (reads : ReadsReason p)
    (may : (s.filters.get f).state.mayQueue = true) (distinct : (s.queue.map QueueEntry.filter).Nodup)
    (h : (reached ∧ p rs = true) ∨ s.Holds f p) : (s.fileIf reached f rs).Holds f p := by
  unfold State.fileIf
  split
  · exact State.fileEntry_holds reads may distinct (h.imp_left And.right)
  · next below => exact h.resolve_left fun above => below above.1

/-- Both comparisons leave a filter that may be queued with an entry for each limit reached (02 R39, R40). -/
theorem State.checkLoads_holds (may : (s.filters.get f).state.mayQueue = true)
    (distinct : (s.queue.map QueueEntry.filter).Nodup) :
    (s.settings.throughputLitres ≤ (s.filters.get f).throughput → (s.checkLoads f).Holds f Reasons.throughput) ∧
      (s.settings.runTimeMinutes ≤ (s.filters.get f).runTime → (s.checkLoads f).Holds f Reasons.runTime) := by
  have first : QueueOnly s (s.checkThroughput f) := .fileIf s _ f _
  have settings : (s.checkThroughput f).settings = s.settings := (congrArg State.settings first :)
  have may' : ((s.checkThroughput f).filters.get f).state.mayQueue = true := by rw [first.filters]; exact may
  have distinct' : ((s.checkThroughput f).queue.map QueueEntry.filter).Nodup := State.fileIf_distinct _ f _ distinct
  unfold State.checkLoads
  rw [State.checkRunTime_eq]
  refine ⟨fun above => ?_, fun late => ?_⟩
  · have raised : (s.checkThroughput f).Holds f Reasons.throughput := by
      rw [State.checkThroughput_eq]
      exact State.fileIf_holds (fun _ _ => rfl) may distinct (.inl ⟨above, rfl⟩)
    exact State.fileIf_holds (fun _ _ => rfl) may' distinct' (.inr raised)
  · refine State.fileIf_holds (fun _ _ => rfl) may' distinct' (.inl ⟨?_, rfl⟩)
    rw [settings, first.filters]
    exact late

/-- An event without pass or grant leaves every entry its reasons. -/
theorem Settles.holds (h : Settles s t) (distinct : (s.queue.map QueueEntry.filter).Nodup) (k : s.Holds f p) :
    t.Holds f p :=
  mem_of_entries (p := fun x => p x = true) (h.entries distinct) k

end Sys2Proof.Machine
end

section
/-! SUPPORT. What a flow pulse does by its parts (02 R28): the Flow Monitor's part, the delivery of flow proof, the credit and
the dosing. -/

namespace Sys2Proof.Machine

variable {s t u : State} {c : CircuitId} {f : FilterId}

/-! ## What a pulse may change -/

/-- The delivery, the credit and the dosing of a pulse of circuit `c` change at most the circuit's credit pointer and Dose
Channel, the filter records, the queue, the notices and what is due. -/
def PulseOnly (c : CircuitId) (s t : State) : Prop :=
  t = { s with filters := t.filters, creditPointer := t.creditPointer, queue := t.queue, doses := t.doses,
               ports := t.ports, due := t.due } ∧
    ∀ d, d ≠ c → t.creditPointer.get d = s.creditPointer.get d ∧ t.doses.get d = s.doses.get d

namespace PulseOnly

theorem refl (s : State) : PulseOnly c s s := ⟨rfl, fun _ _ => ⟨rfl, rfl⟩⟩

theorem trans (h : PulseOnly c s t) (k : PulseOnly c t u) : PulseOnly c s u := by
  obtain ⟨frame, others⟩ := h
  obtain ⟨frame', others'⟩ := k
  refine ⟨frame'.trans (congrArg (fun x : State =>
    { x with filters := u.filters, creditPointer := u.creditPointer, queue := u.queue, doses := u.doses,
             ports := u.ports, due := u.due }) frame), fun d other => ?_⟩
  obtain ⟨pointer, dose⟩ := others d other
  obtain ⟨pointer', dose'⟩ := others' d other
  exact ⟨pointer'.trans pointer, dose'.trans dose⟩

theorem queueOnly (h : QueueOnly s t) : PulseOnly c s t := by
  unfold QueueOnly at h
  rw [h]
  exact ⟨rfl, fun _ _ => ⟨rfl, rfl⟩⟩

theorem updDose (s : State) (g : DoseChannel → DoseChannel) : PulseOnly c s (s.updDose c g) :=
  ⟨rfl, fun _ other => ⟨rfl, PerCircuit.get_set_ne _ other _⟩⟩

theorem deliverFlowProof (s : State) (b : Bool) : PulseOnly c s (s.deliverFlowProof c b) := by
  have formed : PulseOnly c s (s.formReasons c fun r => { r with noFlow := !b }) := by
    refine ⟨?_, fun d other => ⟨congrArg (·.get d) (State.formReasons_creditPointer ..), ?_⟩⟩
    · obtain ⟨ds, ps, frame⟩ := s.formReasons_frame c fun r => { r with noFlow := !b }
      rw [frame]
    · unfold State.formReasons
      rw [State.formDose_doses, PerCircuit.get_set_ne _ other]
  exact formed.trans (queueOnly rfl)

theorem credit (s : State) : PulseOnly c s (s.credit c) := by
  unfold State.credit
  split
  · next f _ =>
    have credited : PulseOnly c s (State.updFilter { s with creditPointer := s.creditPointer.set c f } f
        fun r => r.credited (s.settings.litresPerFlowPulse.get c)) :=
      ⟨rfl, fun _ other => ⟨PerCircuit.get_set_ne _ other _, rfl⟩⟩
    unfold State.creditTo
    dsimp only
    split
    · exact credited.trans (queueOnly (.fileIf _ _ f _))
    · exact credited
  · exact queueOnly (.post s _ _)

theorem dosePulse (s : State) : PulseOnly c s (s.dosePulse c) := by
  unfold State.dosePulse
  split
  · dsimp only
    split
    · exact (updDose s _).trans (queueOnly (.post _ _ _))
    · exact updDose s _
  · exact refl s

end PulseOnly

/-! ## The parts of a pulse -/

/-- The Flow Monitor's part of a pulse (02 R27, R30, R32). -/
def State.pulsed (s : State) (c : CircuitId) : State :=
  { s with
    meters := { s.meters with circuits := s.meters.circuits.set c true },
    flow := s.flow.set c ((s.flow.get c).pulse s.settings.flowProofWindow) }

/-- The pulse with its flow proof delivered, where the circuit had none (02 R31). -/
def State.pulseProven (s : State) (c : CircuitId) : State :=
  if s.flowProven c then s.pulsed c else (s.pulsed c).deliverFlowProof c true

theorem State.flowPulse_eq (s : State) (c : CircuitId) :
    s.flowPulse c = ((s.pulseProven c).credit c).dosePulse c := by
  unfold State.flowPulse
  rw [State.pulseFlowMeter_eq]
  rfl

theorem State.deliverFlowProof_undisturbed (s : State) (c : CircuitId) (b : Bool) :
    s.Undisturbed (s.deliverFlowProof c b) :=
  (s.formReasons_undisturbed c _ rfl).trans (Reacts.refl _).needEval.needGrant.undisturbed

theorem State.deliverFlowProof_reasons (s : State) (c : CircuitId) (b : Bool) :
    ((s.deliverFlowProof c b).doses.get c).reasons = { (s.doses.get c).reasons with noFlow := !b } := by
  unfold State.deliverFlowProof
  rw [State.needGrant_doses, State.needEval_doses, State.formReasons_reasons, if_pos rfl]

theorem State.deliverFlowProof_frame (s : State) (c : CircuitId) (b : Bool) :
    ∃ ds ps d, s.deliverFlowProof c b = { s with doses := ds, ports := ps, due := d } := by
  obtain ⟨ds, ps, frame⟩ := s.formReasons_frame c fun r => { r with noFlow := !b }
  exact ⟨ds, ps, _, congrArg (fun t : State => t.needEval.needGrant) frame⟩

/-- The delivery of flow proof changes the Dose Channels, the notices and what is due alone (02 R31). -/
theorem State.pulseProven_keeps (s : State) (c : CircuitId) :
    (s.pulseProven c).filters = s.filters ∧ (s.pulseProven c).queue = s.queue ∧
      (s.pulseProven c).settings = s.settings ∧ (s.pulseProven c).creditPointer = s.creditPointer := by
  unfold State.pulseProven
  split
  · exact ⟨rfl, rfl, rfl, rfl⟩
  · obtain ⟨ds, ps, d, frame⟩ := (s.pulsed c).deliverFlowProof_frame c true
    rw [frame]
    exact ⟨rfl, rfl, rfl, rfl⟩

theorem State.pulseProven_noPath (s : State) (c : CircuitId) :
    ((s.pulseProven c).doses.get c).reasons.noPath = (s.doses.get c).reasons.noPath := by
  unfold State.pulseProven
  split
  · rfl
  · rw [State.deliverFlowProof_reasons]
    rfl

theorem State.pulseProven_undisturbed (s : State) (c : CircuitId) : (s.pulsed c).Undisturbed (s.pulseProven c) := by
  unfold State.pulseProven
  split
  · exact .refl _
  · exact State.deliverFlowProof_undisturbed ..

theorem PulseOnly.pulseProven (s : State) (c : CircuitId) : PulseOnly c (s.pulsed c) (s.pulseProven c) := by
  unfold State.pulseProven
  split
  · exact .refl _
  · exact .deliverFlowProof _ true

theorem PulseOnly.flowPulse (s : State) (c : CircuitId) : PulseOnly c (s.pulsed c) (s.flowPulse c) := by
  rw [State.flowPulse_eq]
  exact (PulseOnly.pulseProven s c).trans ((PulseOnly.credit _).trans (.dosePulse _))

theorem State.credit_none (h : s.creditFilter c = none) : s.credit c = s.post (.circuit c) .flowWithoutPath := by
  unfold State.credit
  rw [h]

theorem State.dosePulse_inactive (h : s.doseStateOf c ≠ .active) : s.dosePulse c = s := if_neg h

theorem doseState_active {demand : Nat} {r : Interlocks} :
    doseState demand r = .active ↔ demand ≠ 0 ∧ r.isEmpty = true := by
  unfold doseState
  split
  · next zero => simp [zero]
  · next some => cases empty : r.isEmpty <;> simp [some]

theorem State.inactive_of_noPath (h : (s.doses.get c).reasons.noPath = true) : s.doseStateOf c ≠ .active := by
  unfold State.doseStateOf
  rw [Ne, doseState_active]
  simp [Interlocks.isEmpty, h]

end Sys2Proof.Machine
end

section
/-! O35: a flow pulse, and a flow pulse of a circuit that no filter serves. -/

namespace Sys2Proof.Machine

variable {s : State} {c : CircuitId}

theorem State.creditFilter_none (idle : ∀ f, (s.filters.get f).state = .service → (s.filters.get f).circuit ≠ some c) :
    s.creditFilter c = none :=
  List.find?_eq_none.2 fun f _ serves => by
    obtain ⟨state, circuit⟩ := FilterRecord.serves_iff.1 serves
    exact idle f state circuit

/-- A pulse of a circuit that no filter serves is credited to none and doses nothing (02 R37, 07 R144). -/
theorem State.flowPulse_noPath (quiet : s.Quiet) (law : s.InterlockLaw)
    (idle : ∀ f, (s.filters.get f).state = .service → (s.filters.get f).circuit ≠ some c) :
    s.flowPulse c = (s.pulseProven c).post (.circuit c) .flowWithoutPath := by
  have closed : s.hasPath c = false := by
    refine List.any_eq_false.2 fun f _ serves => ?_
    obtain ⟨state, circuit⟩ := FilterRecord.serves_iff.1 serves
    exact idle f state circuit
  have noPath : (s.doses.get c).reasons.noPath = true := by
    rw [law c]
    show (!s.pathOpen.get c) = true
    rw [quiet.paths, closed]
    rfl
  have noCredit : (s.pulseProven c).creditFilter c = none :=
    State.creditFilter_none (by rw [(s.pulseProven_keeps c).1]; exact idle)
  have inactive : ((s.pulseProven c).post (.circuit c) .flowWithoutPath).doseStateOf c ≠ .active :=
    State.inactive_of_noPath ((State.pulseProven_noPath s c).trans noPath)
  rw [State.flowPulse_eq, State.credit_none noCredit, State.dosePulse_inactive inactive]

/-- Settles O35: the pulse's parts change one circuit's items, and its event's reactions none of those stated. -/
theorem flowPulsesProveFlow : Obligations.FlowPulsesProveFlow := by
  unfold Obligations.FlowPulsesProveFlow
  intro s c
  have reacts : Reacts (s.flowPulse c) (s.flowPulse c).finishEvent := (Reacts.refl _).finishEvent
  have after := reacts.undisturbed
  obtain ⟨frame, others⟩ := PulseOnly.flowPulse s c
  have line : (s.flowPulse c).line = s.line := (congrArg State.line frame :)
  refine ⟨_, rfl, after.flow.trans (congrArg State.flow frame :), after.meters.trans (congrArg State.meters frame :),
    after.settings.trans (congrArg State.settings frame :), after.circuits.trans (congrArg State.circuits frame :),
    after.waste.trans (congrArg State.waste frame :), after.bulkLow.trans (congrArg State.bulkLow frame :),
    after.stopActive.trans (congrArg State.stopActive frame :), after.surge.trans (congrArg State.surge frame :),
    after.available.trans (by rw [line]), fun d other => ?_, fun quiet law idle => ?_⟩
  · obtain ⟨pointer, dose⟩ := others d other
    have kept := after.doses d
    rw [dose] at kept
    exact ⟨(congrArg (·.get d) after.creditPointer).trans pointer, kept.accumulator, kept.delivered⟩
  · rw [State.flowPulse_noPath quiet law idle] at reacts ⊢
    have posted : Reacts (s.pulseProven c) ((s.pulseProven c).post (.circuit c) .flowWithoutPath) := (Reacts.refl _).post _ _
    have whole := (s.pulseProven_undisturbed c).trans (posted.trans reacts).undisturbed
    exact ⟨reacts.notice (State.post_notice _ _ _), whole.creditPointer, whole.doses c⟩

end Sys2Proof.Machine
end

section
/-! O38: the expiries of the flow-proof timer and of the bin timer. -/

namespace Sys2Proof.Machine

variable {s : State} {c : CircuitId}

/-- A reason that joins an ACTIVE channel takes its owed strokes and is posted (07 R142). -/
theorem State.formReasons_interlocks {g : Interlocks → Interlocks} (active : s.doseStateOf c = .active)
    (joins : (g (s.doses.get c).reasons).isEmpty = false) :
    ((s.formReasons c g).doses.get c).owed = 0 ∧
      ((s.formReasons c g).ports.get (.circuit c)).hasNotice .doseInterlocked = true := by
  have before : doseState (s.circuits.get c).demand (s.doses.get c).reasons = .active := active
  obtain ⟨demand, -⟩ := doseState_active.1 before
  have afterwards : doseState (s.circuits.get c).demand (g (s.doses.get c).reasons) = .interlocked := by
    unfold doseState
    rw [if_neg demand, joins]
    rfl
  unfold State.formReasons
  rw [State.formDose_doses, State.formDose_ports, PerCircuit.get_set_same]
  constructor
  · simp [DoseChannel.formedOwed, before, afterwards]
  · rw [if_pos (by simp [DoseChannel.posts, before, afterwards]), PerPort.get_set_same]
    exact Port.hasNotice_post_self _ .doseInterlocked

/-- A lost flow proof takes the owed strokes of an ACTIVE channel and is posted (07 R145). -/
theorem State.deliverFlowProof_interlocks (active : s.doseStateOf c = .active) :
    ((s.deliverFlowProof c false).doses.get c).owed = 0 ∧
      ((s.deliverFlowProof c false).ports.get (.circuit c)).hasNotice .doseInterlocked = true := by
  unfold State.deliverFlowProof
  rw [State.needGrant_doses, State.needEval_doses, State.needGrant_ports, State.needEval_ports]
  exact State.formReasons_interlocks active (by simp [Interlocks.isEmpty])

/-- The circuit with its flow-proof timer stopped (02 R30). -/
def State.proofStopped (s : State) (c : CircuitId) : State :=
  { s with flow := s.flow.set c { s.flow.get c with proofTimer := none } }

theorem State.flowProofExpiry_eq (proven : s.flowProven c = true) :
    s.flowProofExpiry c = (s.proofStopped c).deliverFlowProof c false := if_pos proven

/-- Settles O38: the loss of proof is delivered to the Dose Channel, and the interlock law holds again after the event. -/
theorem flowProofAndBinsExpire : Obligations.FlowProofAndBinsExpire := by
  unfold Obligations.FlowProofAndBinsExpire
  refine ⟨fun s c law proven => ?_, fun s => ⟨s.rotateBins, rfl, rfl, State.rotateBins_get s⟩⟩
  have reacts : Reacts (s.flowProofExpiry c) (s.flowProofExpiry c).finishEvent := (Reacts.refl _).finishEvent
  have undisturbed : (s.proofStopped c).Undisturbed (s.flowProofExpiry c).finishEvent := by
    rw [State.flowProofExpiry_eq proven] at reacts ⊢
    exact (State.deliverFlowProof_undisturbed ..).trans reacts.undisturbed
  have law' : (s.flowProofExpiry c).finishEvent.InterlockLaw :=
    (Keeps.flowProofExpiry s c).event.interlocks law
  have unproven : (s.flowProofExpiry c).finishEvent.flowProven c = false := by
    unfold State.flowProven
    rw [undisturbed.flow]
    show ((s.flow.set c _).get c).proven = false
    rw [PerCircuit.get_set_same]
    rfl
  refine ⟨_, rfl, undisturbed, unproven, ?_, fun active => ?_⟩
  · rw [law' c]
    show (!(s.flowProofExpiry c).finishEvent.flowProven c) = true
    rw [unproven]
    rfl
  · obtain ⟨discarded, posted⟩ := State.deliverFlowProof_interlocks (s := s.proofStopped c) active
    rw [State.flowProofExpiry_eq proven] at reacts ⊢
    have kept := (reacts.undisturbed.doses c).owed
    exact ⟨Nat.le_zero.1 (kept.trans (Nat.le_of_eq discarded)), reacts.notice posted⟩

end Sys2Proof.Machine
end

section
/-! O39: a waste pulse, outside the run phases, within one, and at the volume that ends one. -/

namespace Sys2Proof.Machine

variable {s : State} {r : LineRecord}

/-! ## The allowance and the count (03 R56, 04 R72) -/

/-- The part after a waste pulse but for the Line and the notices (02 R27, 03 R56). -/
def State.wasteSpent (s : State) : State :=
  { s with waste := { s.waste with allowance := s.waste.allowance - s.settings.litresPerWastePulse },
           meters := { s.meters with waste := true } }

/-- A waste pulse of a Line that is in no run phase is reported as stray (03 R56). -/
theorem State.wastePulse_stray (idle : ∀ r, s.line.clean = some r → r.phase.isRun = false) :
    s.wastePulse = s.wasteSpent.post .plant .strayWasteFlow := by
  have spent : s.raiseWasteMeter.spendWaste = s.wasteSpent.post .plant .strayWasteFlow := by
    unfold State.spendWaste
    rw [State.raiseWasteMeter_line]
    cases clean : s.line.clean with
    | none => rfl
    | some r =>
      dsimp only
      rw [if_neg (by simp [idle r clean])]
      rfl
  unfold State.wastePulse
  rw [State.pulseWasteMeter_eq, spent]
  unfold State.lineWastePulse
  split
  · rfl
  · next r clean => rw [if_neg (by simp [idle r clean])]

/-- A waste pulse in a run phase is counted, and ends the phase at its volume (04 R72). -/
theorem State.wastePulse_run (clean : s.line.clean = some r) (run : r.phase.isRun = true) :
    s.wastePulse =
      if s.settings.phaseVolume r.phase ≤ r.counted + s.settings.litresPerWastePulse then
        s.wasteSpent.endRun (r.countPulse s.settings.litresPerWastePulse) false
      else s.wasteSpent.setClean (some (r.countPulse s.settings.litresPerWastePulse)) := by
  have spent : s.raiseWasteMeter.spendWaste = s.wasteSpent := by
    unfold State.spendWaste
    rw [State.raiseWasteMeter_line, clean]
    dsimp only
    rw [if_pos run]
    rfl
  unfold State.wastePulse
  rw [State.pulseWasteMeter_eq, spent]
  unfold State.lineWastePulse
  rw [show s.wasteSpent.line.clean = some r from clean]
  dsimp only
  rw [if_pos run]
  rfl

theorem State.wastePulse_short {volume : Nat} (clean : s.line.clean = some r) (run : r.phase.isRun = true)
    (limit : s.settings.phaseVolume r.phase = volume) (short : r.counted + s.settings.litresPerWastePulse < volume) :
    s.wastePulse = s.wasteSpent.setClean (some (r.countPulse s.settings.litresPerWastePulse)) := by
  rw [State.wastePulse_run clean run, limit, if_neg (Nat.not_le.2 short)]

theorem State.wastePulse_full {volume : Nat} (clean : s.line.clean = some r) (run : r.phase.isRun = true)
    (limit : s.settings.phaseVolume r.phase = volume) (full : volume ≤ r.counted + s.settings.litresPerWastePulse) :
    s.wastePulse = s.wasteSpent.endRun (r.countPulse s.settings.litresPerWastePulse) false := by
  rw [State.wastePulse_run clean run, limit, if_pos full]

/-! ## Travels of the Line that must wait (04 R74, R75) -/

theorem State.toRinse_waits (waits : s.MustWait r.filter .rinse) :
    s.toRinse r = s.lineTravels (r.resting .toRinse) .rinse :=
  State.MustWait.fileTravel (s := (s.setPump false).setClean (some { r.stopTimers with phase := .toRinse }))
    ⟨waits.request, waits.elsewhere, waits.held⟩ .backwashLine

theorem State.returnTargetOf_eq (s : State) (r : LineRecord) :
    s.returnTargetOf r = r.returnStop (s.filters.get r.filter) := by
  unfold State.returnTargetOf LineRecord.returnStop
  cases r.exitUnrinsed with
  | true => rfl
  | false => cases (s.filters.get r.filter).circuit <;> cases (s.filters.get r.filter).releaseOnReturn <;> rfl

theorem State.beginReturning_waits {target : Stop} (returns : r.returnStop (s.filters.get r.filter) = target)
    (waits : s.MustWait r.filter target) :
    s.beginReturning r = s.lineTravels { r.resting .returning with returnTarget := target } target := by
  unfold State.beginReturning
  rw [State.returnTargetOf_eq, returns]
  exact State.MustWait.fileTravel
    (s := (s.setPump false).setClean (some { r.stopTimers with phase := .returning, returnTarget := target }))
    ⟨waits.request, waits.elsewhere, waits.held⟩ .backwashLine

/-- The end of a rinse by its volume, where the return must wait (04 R72). -/
theorem State.endRun_rinse (phase : r.phase = .rinseRun)
    (waits : s.MustWait r.filter (r.returnStop (s.filters.get r.filter))) :
    s.endRun r false = (s.rinsed r.filter).lineTravels
      { r.resting .returning with
        outcome := r.outcome.orElse .complete, returnTarget := r.returnStop (s.filters.get r.filter) }
      (r.returnStop (s.filters.get r.filter)) := by
  have rinsed : (s.rinsed r.filter).filters.get r.filter = { s.filters.get r.filter with rinseOwed := false } :=
    Bank.get_set_same ..
  unfold State.endRun
  rw [if_neg (by rw [phase]; decide)]
  refine State.beginReturning_waits (r := { r with outcome := r.outcome.orElse .complete })
    (target := r.returnStop (s.filters.get r.filter)) ?_ ⟨waits.request, waits.elsewhere, waits.held⟩
  rw [rinsed]
  rfl

theorem State.endRun_backwash (phase : r.phase = .backwashRun) (waits : s.MustWait r.filter .rinse) :
    s.endRun r false = s.lineTravels (r.resting .toRinse) .rinse := by
  unfold State.endRun
  rw [if_pos phase]
  exact State.toRinse_waits waits

/-- Settles O39: the pulse's own effect in each phase, which a quiet state's event ends with. -/
theorem wastePulsesAreSpentAndCounted : Obligations.WastePulsesAreSpentAndCounted := by
  unfold Obligations.WastePulsesAreSpentAndCounted
  intro s quiet litres u
  have step : exec .wastePulse s = .next s.wastePulse.finishEvent := rfl
  refine ⟨fun idle => ?_, fun r clean => ?_⟩
  · have noRun : ∀ r, s.line.clean = some r → r.phase.isRun = false := fun r clean => by
      obtain ⟨noBackwash, noRinse⟩ := idle r clean
      cases phase : r.phase with
      | backwashRun => exact absurd phase noBackwash
      | rinseRun => exact absurd phase noRinse
      | toBackwash | toRinse | returning | suspended | stopHeld => rfl
    exact exec_quiet step (State.wastePulse_stray noRun) (quiet.of_eq rfl rfl rfl)
  · intro x
    refine ⟨fun phase => ?_, fun phase => ?_⟩
    · have run : r.phase.isRun = true := by rw [phase]; rfl
      have limit : s.settings.phaseVolume r.phase = s.settings.backwashVolume := by rw [phase]; rfl
      refine ⟨fun short => ?_, fun full waits => ?_⟩
      · exact exec_quiet step (State.wastePulse_short clean run limit short) (quiet.of_eq rfl rfl rfl)
      · have ends := State.endRun_backwash (s := s.wasteSpent) (r := r.countPulse litres) phase
          ⟨waits.request, waits.elsewhere, waits.held⟩
        exact exec_quiet step ((State.wastePulse_full clean run limit full).trans ends) (quiet.of_eq rfl rfl rfl)
    · have run : r.phase.isRun = true := by rw [phase]; rfl
      have limit : s.settings.phaseVolume r.phase = s.settings.rinseVolume := by rw [phase]; rfl
      intro target
      refine ⟨fun short => ?_, fun full waits => ?_⟩
      · exact exec_quiet step (State.wastePulse_short clean run limit short) (quiet.of_eq rfl rfl rfl)
      · have ends := State.endRun_rinse (s := s.wasteSpent) (r := r.countPulse litres) phase
          ⟨waits.request, waits.elsewhere, waits.held⟩
        have rinsed : (s.wasteSpent.rinsed r.filter).Quiet :=
          State.Quiet.updFilter (s := s.wasteSpent) (quiet.of_eq rfl rfl rfl) r.filter (fun _ => rfl) fun _ => rfl
        exact exec_quiet step ((State.wastePulse_full clean run limit full).trans ends) (rinsed.of_eq rfl rfl rfl)

end Sys2Proof.Machine
end

section
/-! O40: the minute timer and the re-check timer of a filter. -/

namespace Sys2Proof.Machine

variable {s : State} {f : FilterId}

/-- A minute more in service (02 R38). -/
def State.minutePassed (s : State) (f : FilterId) : State :=
  s.updFilter f fun r => { r with runTime := min (r.runTime + 1) 65535 }

theorem State.minutePassed_record (s : State) (f : FilterId) :
    (s.minutePassed f).filters.get f =
      { s.filters.get f with runTime := min ((s.filters.get f).runTime + 1) 65535 } := Bank.get_set_same ..

/-- The minute that takes the run time from below its limit is compared with it (02 R40). -/
theorem State.runTimeMinute_compared (runs : (s.filters.get f).minuteTimer = true)
    (below : (s.filters.get f).runTime < s.settings.runTimeMinutes) :
    s.runTimeMinute f = (s.minutePassed f).checkRunTime f := by
  unfold State.runTimeMinute
  dsimp only
  rw [if_pos runs, if_pos below]
  rfl

theorem State.runTimeMinute_above (runs : (s.filters.get f).minuteTimer = true)
    (above : ¬ (s.filters.get f).runTime < s.settings.runTimeMinutes) : s.runTimeMinute f = s.minutePassed f := by
  unfold State.runTimeMinute
  dsimp only
  rw [if_pos runs, if_neg above]
  rfl

/-- A minute that does not cross the limit is counted alone (02 R38, R40). -/
theorem State.runTimeMinute_counts (runs : (s.filters.get f).minuteTimer = true)
    (noCross : s.settings.runTimeMinutes ≤ (s.filters.get f).runTime ∨
      (s.filters.get f).runTime + 1 < s.settings.runTimeMinutes) : s.runTimeMinute f = s.minutePassed f := by
  by_cases below : (s.filters.get f).runTime < s.settings.runTimeMinutes
  · rw [State.runTimeMinute_compared runs below]
    unfold State.checkRunTime
    refine if_neg ?_
    rw [State.minutePassed_record]
    show ¬ s.settings.runTimeMinutes ≤ min ((s.filters.get f).runTime + 1) 65535
    omega
  · exact State.runTimeMinute_above runs below

theorem State.runTimeMinute_queueOnly (runs : (s.filters.get f).minuteTimer = true) :
    QueueOnly (s.minutePassed f) (s.runTimeMinute f) ∧ Reacts (s.minutePassed f) (s.runTimeMinute f) := by
  by_cases below : (s.filters.get f).runTime < s.settings.runTimeMinutes
  · rw [State.runTimeMinute_compared runs below]
    exact ⟨.fileIf _ _ f _, (Reacts.refl _).checkRunTime f⟩
  · rw [State.runTimeMinute_above runs below]
    exact ⟨.refl _, .refl _⟩

/-- The minute that reaches the limit leaves a filter that may be queued with RUN_TIME (02 R40). -/
theorem State.runTimeMinute_raises (runs : (s.filters.get f).minuteTimer = true) (stopped : s.stopActive = true)
    (law : s.QueueLaw) (may : (s.filters.get f).state.mayQueue = true)
    (below : (s.filters.get f).runTime < s.settings.runTimeMinutes)
    (reached : s.settings.runTimeMinutes ≤ min ((s.filters.get f).runTime + 1) 65535) :
    (s.runTimeMinute f).finishEvent.Holds f Reasons.runTime := by
  have settles := (State.runTimeMinute_queueOnly runs).1.settles stopped
  rw [State.runTimeMinute_compared runs below] at settles ⊢
  rw [State.checkRunTime_eq] at settles ⊢
  refine settles.holds (State.fileIf_distinct _ f _ law.distinct) ?_
  refine State.fileIf_holds (fun _ _ => rfl) ?_ law.distinct (.inl ⟨?_, rfl⟩)
  · rw [State.minutePassed_record]
    exact may
  · rw [State.minutePassed_record]
    exact reached

theorem State.recheck_eq (runs : (s.filters.get f).recheckTimer = true) : s.recheck f = s.checkLoads f := if_pos runs

/-- Settles O40: each expiry by the comparisons it makes, and what the event's reactions leave of the entry. -/
theorem loadTimersRaiseTheirTriggers : Obligations.LoadTimersRaiseTheirTriggers := by
  unfold Obligations.LoadTimersRaiseTheirTriggers
  intro s f r minute minutes litres
  have minuteStep : exec (.runTimeMinute f) s = .next (s.runTimeMinute f).finishEvent := rfl
  have recheckStep : exec (.recheckExpiry f) s = .next (s.recheck f).finishEvent := rfl
  refine ⟨fun runs => ?_, fun runs => ?_, fun quiet => ⟨fun stands => ?_, fun stands => ?_⟩⟩
  · obtain ⟨queueOnly, reacts⟩ := State.runTimeMinute_queueOnly runs
    refine ⟨_, minuteStep, reacts.finishEvent.undisturbed, fun quiet noCross => ?_, fun stopped => ⟨?_, ?_⟩⟩
    · have quiet' : (s.minutePassed f).Quiet := quiet.updFilter f (fun _ => rfl) fun _ => rfl
      rw [State.runTimeMinute_counts runs noCross]
      exact quiet'.finishEvent
    · exact (queueOnly.settles stopped).filters.trans queueOnly.filters
    · exact State.runTimeMinute_raises runs stopped
  · have queueOnly := QueueOnly.checkLoads s f
    have reacts := (Reacts.refl s).checkLoads f
    rw [← State.recheck_eq runs] at queueOnly reacts
    refine ⟨_, recheckStep, reacts.finishEvent.undisturbed, fun quiet below early => ?_, fun stopped => ⟨?_, fun law may => ?_⟩⟩
    · rw [State.recheck_eq runs, State.checkLoads_none (Nat.not_le.2 below) (Nat.not_le.2 early)]
      exact quiet.finishEvent
    · exact (queueOnly.settles stopped).filters.trans queueOnly.filters
    · have settles := queueOnly.settles stopped
      rw [State.recheck_eq runs] at settles ⊢
      have distinct := s.checkLoads_distinct f law.distinct
      obtain ⟨throughput, runTime⟩ := State.checkLoads_holds may law.distinct
      exact ⟨fun above => settles.holds distinct (throughput above), fun late => settles.holds distinct (runTime late)⟩
  · exact exec_nothing quiet minuteStep (if_neg (by rw [stands]; decide))
  · exact exec_nothing quiet recheckStep (if_neg (by rw [stands]; decide))

end Sys2Proof.Machine
end

section
/-! O41: a change of a DP switch, and the expiry of its hold at grace 0 and within the grace. -/

namespace Sys2Proof.Machine

variable {s : State} {f : FilterId} {n : Nat}

theorem State.updFilter_congr {g k : FilterRecord → FilterRecord} (h : g (s.filters.get f) = k (s.filters.get f)) :
    s.updFilter f g = s.updFilter f k := by
  unfold State.updFilter
  rw [h]

theorem FilterRecord.dpSwitched_changes {r : FilterRecord} {active : Bool} (changes : r.dpActive ≠ active) (n : Nat) :
    r.dpSwitched active n = { r with
      dpActive := active, dpTimer := if active = true ∧ r.state = .service then .running n else .stopped } := by
  unfold FilterRecord.dpSwitched
  rw [if_neg changes]
  simp only [Bool.and_eq_true, beq_iff_eq]

/-! ## The expiry of the hold timer (02 R42) -/

/-- The hold timer stopped at its expiry (02 R41). -/
def State.holdExpired (s : State) (f : FilterId) (n : Nat) : State :=
  s.updFilter f fun r => { r with dpTimer := .expired n }

theorem State.holdExpired_record (s : State) (f : FilterId) (n : Nat) :
    (s.holdExpired f n).filters.get f = { s.filters.get f with dpTimer := .expired n } := Bank.get_set_same ..

theorem State.dpHoldExpiry_grace (running : (s.filters.get f).dpTimer = .running n) (spent : (s.filters.get f).grace = 0) :
    s.dpHoldExpiry f = (s.holdExpired f n).fileEntry f { pressure := true } := by
  unfold State.dpHoldExpiry
  rw [running]
  exact if_pos spent

theorem State.dpHoldExpiry_fresh (running : (s.filters.get f).dpTimer = .running n) (left : 0 < (s.filters.get f).grace) :
    s.dpHoldExpiry f = (s.holdExpired f n).faultFilter f .mediaBlocked := by
  unfold State.dpHoldExpiry
  rw [running]
  exact if_neg (Nat.ne_of_gt left)

theorem Reacts.dpHoldExpiry (running : (s.filters.get f).dpTimer = .running n) (service : (s.filters.get f).state = .service) :
    Reacts s (s.dpHoldExpiry f) := by
  have awake : ¬ s.Still f := State.not_still_of (by rw [service]; decide) (by rw [service]; decide)
  have expired : Reacts s (s.holdExpired f n) :=
    (Reacts.refl s).updRecord f (fun still => absurd still awake) rfl rfl
      fun ranged => ⟨ranged.throughput, ranged.runTime, ranged.grace, ranged.backwashCount⟩
  rcases Nat.eq_zero_or_pos (s.filters.get f).grace with spent | left
  · rw [State.dpHoldExpiry_grace running spent]
    exact expired.fileEntry f _
  · rw [State.dpHoldExpiry_fresh running left]
    exact expired.faultFilter _ awake

/-! ## A filing that makes the entry urgent (03 R48, R49) -/

/-- PRESSURE takes a filter with no urgent entry to the last place of the urgent entries. -/
theorem State.fileEntry_urgent (may : (s.filters.get f).state.mayQueue = true)
    (calm : ∀ e ∈ s.queue, e.filter = f → e.reasons.pressure = false) :
    ∃ e, e.filter = f ∧ e.urgent = true ∧
      (s.fileEntry f { pressure := true }).queue = insertEntry (removeEntry s.queue f) e := by
  cases old : s.entryOf f with
  | none =>
    refine ⟨{ filter := f, reasons := { pressure := true }, eligibility := s.eligibilityOf f }, rfl, rfl, ?_⟩
    rw [State.fileEntry_new may old, removeEntry_self (State.entryOf_none old)]
  | some x =>
    obtain ⟨mem, named⟩ := State.entryOf_some old
    have urgent : (x.reasons.union { pressure := true }).pressure = true := Bool.or_true _
    refine ⟨{ x with reasons := x.reasons.union { pressure := true } }, named, urgent, ?_⟩
    have rises : (QueueEntry.urgent { x with reasons := x.reasons.union { pressure := true } } && !x.urgent) = true := by
      show ((x.reasons.union { pressure := true }).pressure && !x.reasons.pressure) = true
      rw [urgent, calm x mem named]
      rfl
    unfold State.fileEntry
    rw [if_pos may, old]
    exact congrArg State.queue (if_pos rises)

/-- The order of a queue into which an urgent entry has moved. -/
theorem insertEntry_urgent_order {q : List QueueEntry} {e : QueueEntry}
    (order : q.Pairwise fun a b => b.urgent = true → a.urgent = true) (named : e.filter = f) (urgent : e.urgent = true)
    (calm : ∀ x ∈ q, x.filter = f → x.reasons.pressure = false) :
    (insertEntry (removeEntry q f) e).map QueueEntry.filter =
      (q.filter fun x => x.reasons.pressure).map QueueEntry.filter ++ [f] ++
        (q.filter fun x => !x.reasons.pressure && x.filter != f).map QueueEntry.filter := by
  obtain ⟨take, drop⟩ := takeWhile_urgent (removeEntry_order f order)
  have first : (removeEntry q f).filter QueueEntry.urgent = q.filter fun x => x.reasons.pressure := by
    unfold removeEntry
    rw [List.filter_filter]
    refine List.filter_congr fun x mem => ?_
    by_cases same : x.filter = f
    · simp [QueueEntry.urgent, calm x mem same]
    · simp [QueueEntry.urgent, same]
  have last : ((removeEntry q f).filter fun x => !x.urgent) = q.filter fun x => !x.reasons.pressure && x.filter != f :=
    List.filter_filter ..
  unfold insertEntry
  rw [if_pos urgent, take, drop, first, last, List.map_append, List.map_cons, named, List.append_assoc]
  rfl

/-! ## The obligation -/

/-- At grace 0 under plant stop the filter is queued as urgent, and nothing moves it (02 R42, 03 R48). -/
theorem State.dpHoldExpiry_queues (running : (s.filters.get f).dpTimer = .running n)
    (service : (s.filters.get f).state = .service) (spent : (s.filters.get f).grace = 0) (law : s.QueueLaw)
    (stopped : s.stopActive = true) (calm : ∀ e ∈ s.queue, e.filter = f → e.reasons.pressure = false) :
    let t := (s.dpHoldExpiry f).finishEvent
    t.filters = s.filters.set f { s.filters.get f with dpTimer := .expired n } ∧
      t.queue.map QueueEntry.filter = (s.queue.filter fun e => e.reasons.pressure).map QueueEntry.filter ++ [f] ++
        (s.queue.filter fun e => !e.reasons.pressure && e.filter != f).map QueueEntry.filter ∧
      t.Holds f Reasons.pressure := by
  have may : ((s.holdExpired f n).filters.get f).state.mayQueue = true := by
    rw [State.holdExpired_record]
    show (s.filters.get f).state.mayQueue = true
    rw [service]
    rfl
  have queueOnly := QueueOnly.fileEntry (s.holdExpired f n) f { pressure := true }
  have distinct := (s.holdExpired f n).fileEntry_distinct f { pressure := true } law.distinct
  have filed : ((s.holdExpired f n).fileEntry f { pressure := true }).Holds f Reasons.pressure :=
    State.fileEntry_holds (fun _ _ => rfl) may law.distinct (.inl rfl)
  obtain ⟨e, named, urgent, queue⟩ := State.fileEntry_urgent (s := s.holdExpired f n) may calm
  rw [← State.dpHoldExpiry_grace running spent] at queueOnly distinct filed queue
  have settles := queueOnly.settles stopped
  refine ⟨settles.filters.trans queueOnly.filters, settles.2.1.trans ?_, settles.holds distinct filed⟩
  rw [queue]
  exact insertEntry_urgent_order law.order named urgent calm

/-- Within the grace the filter is in FAULT, its entry gone, and nothing moves it (02 R42, 01 R9). -/
theorem State.dpHoldExpiry_faults (running : (s.filters.get f).dpTimer = .running n)
    (service : (s.filters.get f).state = .service) (left : 0 < (s.filters.get f).grace)
    (request : s.requests.get f = none) (travel : f ∉ s.travelQueue)
    (line : ∀ x, s.line.clean = some x → x.filter ≠ f) :
    let t := (s.dpHoldExpiry f).finishEvent
    t.filters.get f = (s.filters.get f).inFault .mediaBlocked ∧ (∀ e ∈ t.queue, e.filter ≠ f) ∧
      (t.ports.get .plant).hasNotice .filterFault = true ∧
      ∀ k, (s.filters.get f).circuit = some k → (t.ports.get (.circuit k)).hasNotice .filterFault = true := by
  have record := s.holdExpired_record f n
  have awake : ((s.holdExpired f n).filters.get f).state ≠ .fault := by
    rw [record]
    show (s.filters.get f).state ≠ .fault
    rw [service]
    decide
  obtain ⟨still, faulted, -⟩ := State.faultFilter_still (kind := .mediaBlocked) awake request travel line
  obtain ⟨plant, circuit⟩ := State.faultFilter_notices (kind := .mediaBlocked) awake
  rw [record] at faulted circuit
  rw [← State.dpHoldExpiry_fresh running left] at still faulted plant circuit
  have reacts : Reacts (s.dpHoldExpiry f) (s.dpHoldExpiry f).finishEvent := (Reacts.refl _).finishEvent
  obtain ⟨still', same, -⟩ := reacts.still f still
  exact ⟨same.trans faulted, still'.queue, reacts.notice plant, fun k on => reacts.notice (circuit k on)⟩

/-- Settles O41: the switch by its record, the expiry by what it files or faults and what the reactions leave of it. -/
theorem pressureIsQueuedOrBlocksTheFilter : Obligations.PressureIsQueuedOrBlocksTheFilter := by
  unfold Obligations.PressureIsQueuedOrBlocksTheFilter
  refine ⟨fun s f active changes => ?_, fun s f n => ?_⟩
  · exact congrArg Host.Outcome.next (State.updFilter_congr (FilterRecord.dpSwitched_changes changes _))
  · intro r running service
    exact ⟨_, rfl, (Reacts.dpHoldExpiry running service).finishEvent.undisturbed,
      State.dpHoldExpiry_queues running service, State.dpHoldExpiry_faults running service⟩

end Sys2Proof.Machine
end

section
/-! SUPPORT. The dosing of a pulse in closed form (07 R135, R136, R138). -/

namespace Sys2Proof.Machine

variable {s : State} {c : CircuitId}

/-- The strokes that an accumulator of `a` gives a channel which owes `o`: whole units, up to eight owed (07 R135). -/
def earnedStrokes (unit a o : Nat) : Nat := min (a / unit) (8 - o)

theorem earnedStrokes_succ {unit a o : Nat} (pos : 0 < unit) (holds : unit ≤ a) (room : o < 8) :
    earnedStrokes unit a o = earnedStrokes unit (a - unit) (o + 1) + 1 := by
  unfold earnedStrokes
  rw [Nat.div_eq_sub_div pos holds]
  omega

/-- The conversion takes the earned strokes' units from the accumulator, and saturates where a unit is left (07 R136). -/
theorem convertDose_eq {unit : Nat} (pos : 0 < unit) {n a o : Nat} (owed : o ≤ 8) (enough : 8 < n + o) :
    convertDose unit n a o =
      if unit ≤ a - earnedStrokes unit a o * unit then (unit - 1, o + earnedStrokes unit a o, true)
      else (a - earnedStrokes unit a o * unit, o + earnedStrokes unit a o, false) := by
  induction n generalizing a o with
  | zero => omega
  | succ n ih =>
    unfold convertDose
    by_cases low : a < unit
    · have nothing : earnedStrokes unit a o = 0 := by
        unfold earnedStrokes
        rw [Nat.div_eq_of_lt low, Nat.zero_min]
      rw [if_pos low, nothing, Nat.zero_mul, Nat.sub_zero, if_neg (Nat.not_le.2 low), Nat.add_zero]
    · rw [if_neg low]
      by_cases room : o < 8
      · have rest : a - (earnedStrokes unit (a - unit) (o + 1) + 1) * unit =
            a - unit - earnedStrokes unit (a - unit) (o + 1) * unit := by
          rw [Nat.succ_mul, Nat.add_comm, Nat.sub_add_eq]
        rw [if_pos room, ih (by omega) (by omega), earnedStrokes_succ pos (Nat.not_lt.1 low) room, rest,
          Nat.add_right_comm o, Nat.add_assoc o]
      · have nothing : earnedStrokes unit a o = 0 := by
          unfold earnedStrokes
          rw [Nat.sub_eq_zero_of_le (Nat.not_lt.1 room), Nat.min_zero]
        rw [if_neg room, nothing, Nat.zero_mul, Nat.sub_zero, if_pos (Nat.not_lt.1 low), Nat.add_zero]

/-- An ACTIVE channel after a pulse, where `rest` is left in its accumulator and it owes `owed` strokes before one starts. -/
def DoseChannel.dosed (d : DoseChannel) (unit rest owed interval : Nat) : DoseChannel :=
  { reasons := d.reasons
    accumulator := if unit ≤ rest then unit - 1 else rest
    owed := if 0 < owed ∧ d.pacing = none then owed - 1 else owed
    pacing := if 0 < owed ∧ d.pacing = none then some interval else d.pacing
    stroke := if 0 < owed ∧ d.pacing = none then true else d.stroke
    delivered := if 0 < owed ∧ d.pacing = none then min (d.delivered + 1) 4294967295 else d.delivered
    shortfall := if unit ≤ rest then min (d.shortfall + 1) 65535 else d.shortfall }

/-- A stroke started, or not, where the accumulator and the shortfall stand (07 R138). -/
theorem DoseChannel.tryStroke_eq (d : DoseChannel) (interval : Nat) :
    d.tryStroke interval = { d with
      owed := if 0 < d.owed ∧ d.pacing = none then d.owed - 1 else d.owed
      pacing := if 0 < d.owed ∧ d.pacing = none then some interval else d.pacing
      stroke := if 0 < d.owed ∧ d.pacing = none then true else d.stroke
      delivered := if 0 < d.owed ∧ d.pacing = none then min (d.delivered + 1) 4294967295 else d.delivered } := by
  unfold DoseChannel.tryStroke
  by_cases starts : 0 < d.owed ∧ d.pacing = none
  · rw [if_pos (by simpa using starts)]
    simp only [if_pos starts]
  · rw [if_neg (by simpa using starts)]
    simp only [if_neg starts]

/-- A pulse's accumulation, conversion and stroke, and whether the pulse saturates (07 R135, R136, R138). -/
theorem DoseChannel.dosed_eq {d : DoseChannel} {unit amount earned rest : Nat} (pos : 0 < unit) (few : d.owed ≤ 8)
    (earns : earned = earnedStrokes unit (d.accumulator + amount) d.owed)
    (rests : rest = d.accumulator + amount - earned * unit) (interval : Nat) :
    (d.accumulate unit amount).tryStroke interval = d.dosed unit rest (d.owed + earned) interval ∧
      d.saturates unit amount = decide (unit ≤ rest) := by
  have converts : convertDose unit (Config.owedMax + 1) (d.accumulator + amount) d.owed =
      if unit ≤ rest then (unit - 1, d.owed + earned, true) else (rest, d.owed + earned, false) := by
    rw [convertDose_eq pos few (by show 8 < 8 + 1 + d.owed; omega), ← earns, ← rests]
  rw [DoseChannel.tryStroke_eq]
  unfold DoseChannel.accumulate DoseChannel.saturates DoseChannel.dosed
  rw [converts]
  by_cases full : unit ≤ rest
  · simp [full]
  · simp [full]

theorem State.dosePulse_frame (s : State) (c : CircuitId) :
    ∃ ds ps, s.dosePulse c = { s with doses := ds, ports := ps } := by
  unfold State.dosePulse
  split
  · dsimp only
    split <;> exact ⟨_, _, rfl⟩
  · exact ⟨_, _, rfl⟩

theorem State.Quiet.dosePulse (quiet : s.Quiet) (c : CircuitId) : (s.dosePulse c).Quiet := by
  obtain ⟨ds, ps, frame⟩ := s.dosePulse_frame c
  rw [frame]
  exact quiet.of_eq rfl rfl rfl

/-- The dose part of a pulse in closed form, with the channel's quantities in their ranges (07 R135 to R138). -/
theorem State.dosePulse_eq (law : s.DoseLaw) (c : CircuitId) :
    let d := s.doses.get c
    let unit := s.settings.strokeVolume.get c * s.settings.hypoStrength
    let total := d.accumulator + s.settings.litresPerFlowPulse.get c * (s.circuits.get c).demand
    let earned := min (total / unit) (8 - d.owed)
    let owed := d.owed + earned
    let full := unit ≤ total - earned * unit
    let starts := 0 < owed ∧ d.pacing = none
    s.dosePulse c =
      if doseState (s.circuits.get c).demand d.reasons = .active then
        let e : DoseChannel :=
          { reasons := d.reasons
            accumulator := if full then unit - 1 else total - earned * unit
            owed := if starts then owed - 1 else owed
            pacing := if starts then some (60000 / s.settings.maxStrokeRate.get c) else d.pacing
            stroke := if starts then true else d.stroke
            delivered := if starts then min (d.delivered + 1) 4294967295 else d.delivered
            shortfall := if full then min (d.shortfall + 1) 65535 else d.shortfall }
        let t := { s with doses := s.doses.set c e }
        if full then t.post (.circuit c) .doseSaturated else t
      else s := by
  intro d unit total earned owed full starts
  obtain ⟨below, few, -⟩ := law c
  obtain ⟨channel, saturates⟩ := DoseChannel.dosed_eq (d := d) (unit := unit)
    (amount := s.settings.litresPerFlowPulse.get c * (s.circuits.get c).demand) (earned := earned)
    (rest := total - earned * unit) (Nat.lt_of_le_of_lt (Nat.zero_le _) below) few rfl rfl
    (60000 / s.settings.maxStrokeRate.get c)
  have dosed : (s.updDose c fun d => (d.accumulate (s.settings.strokeUnit c)
      (s.settings.litresPerFlowPulse.get c * (s.circuits.get c).demand)).tryStroke (s.settings.pacingInterval c)) =
      { s with doses := s.doses.set c (d.dosed unit (total - earned * unit) owed (60000 / s.settings.maxStrokeRate.get c)) } :=
    congrArg (fun x => { s with doses := s.doses.set c x }) channel
  unfold State.dosePulse
  dsimp only
  rw [dosed]
  refine if_congr Iff.rfl (if_congr ?_ rfl rfl) rfl
  rw [show (s.doses.get c).saturates (s.settings.strokeUnit c) _ = _ from saturates, decide_eq_true_iff]

end Sys2Proof.Machine
end

section
/-! O36: the credit of a pulse (02 R35, R36), its filing at the limit (02 R40), and the pulse as a whole. -/

namespace Sys2Proof.Machine

variable {s t : State} {c : CircuitId} {f : FilterId}

/-! ## The filter that takes the credit (02 R35) -/

/-- The place of a filter in the round-robin that begins after the filter `p`. -/
def creditPlace (p g : FilterId) : Nat := (filterNumber g + 5 - filterNumber p) % 6

theorem creditOrder_places (p : FilterId) : (creditOrder p).Pairwise fun g h => creditPlace p g < creditPlace p h := by
  cases p <;> decide

theorem mem_creditOrder (p g : FilterId) : g ∈ creditOrder p := by
  cases p <;> cases g <;> decide

theorem State.creditFilter_first (serves : (s.filters.get f).state = .service ∧ (s.filters.get f).circuit = some c)
    (first : ∀ g, (s.filters.get g).state = .service ∧ (s.filters.get g).circuit = some c →
      creditPlace (s.creditPointer.get c) f ≤ creditPlace (s.creditPointer.get c) g) : s.creditFilter c = some f :=
  find?_first (creditOrder_places _) (mem_creditOrder _ f) (FilterRecord.serves_iff.2 serves) fun g _ serves' =>
    Nat.not_lt.2 (first g (FilterRecord.serves_iff.1 serves'))

/-! ## The credit (02 R36, R40) -/

/-- A filter credited with a pulse of a circuit (02 R35, R36). -/
def State.creditGiven (s : State) (c : CircuitId) (f : FilterId) : State :=
  { s with
    creditPointer := s.creditPointer.set c f,
    filters := s.filters.set f ((s.filters.get f).credited (s.settings.litresPerFlowPulse.get c)) }

theorem State.creditGiven_record (s : State) (c : CircuitId) (f : FilterId) :
    (s.creditGiven c f).filters.get f = (s.filters.get f).credited (s.settings.litresPerFlowPulse.get c) :=
  Bank.get_set_same ..

theorem State.Quiet.creditGiven (quiet : s.Quiet) (c : CircuitId) (f : FilterId) : (s.creditGiven c f).Quiet :=
  State.Quiet.updFilter (s := { s with creditPointer := s.creditPointer.set c f }) (quiet.of_eq rfl rfl rfl) f
    (g := fun r => r.credited (s.settings.litresPerFlowPulse.get c)) (fun _ => rfl) fun _ => rfl

theorem State.credit_some (takes : s.creditFilter c = some f) :
    s.credit c = if (s.filters.get f).throughput < s.settings.throughputLitres then
      (s.creditGiven c f).checkThroughput f else s.creditGiven c f := by
  unfold State.credit
  rw [takes]
  rfl

/-- A credit that does not cross the limit files nothing. -/
theorem State.credit_below (takes : s.creditFilter c = some f)
    (noCross : s.settings.throughputLitres ≤ (s.filters.get f).throughput ∨
      (s.filters.get f).throughput + s.settings.litresPerFlowPulse.get c < s.settings.throughputLitres) :
    s.credit c = s.creditGiven c f := by
  rw [State.credit_some takes]
  split
  · next below =>
    have short := noCross.resolve_left (Nat.not_le.2 below)
    unfold State.checkThroughput
    refine if_neg ?_
    rw [State.creditGiven_record]
    exact Nat.not_le.2 (Nat.lt_of_le_of_lt (Nat.min_le_left _ _) short)
  · rfl

/-- A credit that crosses the limit files THROUGHPUT (02 R40). -/
theorem State.credit_crosses (takes : s.creditFilter c = some f)
    (below : (s.filters.get f).throughput < s.settings.throughputLitres)
    (reaches : s.settings.throughputLitres ≤
      ((s.filters.get f).credited (s.settings.litresPerFlowPulse.get c)).throughput) :
    s.credit c = (s.creditGiven c f).fileEntry f { throughput := true } := by
  rw [State.credit_some takes, if_pos below]
  unfold State.checkThroughput
  refine if_pos ?_
  rw [State.creditGiven_record]
  exact reaches

/-! ## Filings that are not urgent (03 R48, R49) -/

/-- A new entry for a load goes to the last place. -/
theorem State.fileEntry_last {rs : Reasons} (may : (s.filters.get f).state.mayQueue = true) (calm : rs.pressure = false)
    (absent : ∀ e ∈ s.queue, e.filter ≠ f) : (s.fileEntry f rs).entries = s.entries ++ [(f, rs)] := by
  have noEntry : s.entryOf f = none := List.find?_eq_none.2 fun e mem => by simpa using absent e mem
  unfold State.entries
  rw [State.fileEntry_new may noEntry]
  unfold insertEntry
  rw [if_neg (by simp [QueueEntry.urgent, calm]), List.map_append]
  rfl

/-- A load merged into the entry that a filter has leaves the entry its place. -/
theorem State.fileEntry_merged {rs : Reasons} (may : (s.filters.get f).state.mayQueue = true) (calm : rs.pressure = false)
    (distinct : (s.queue.map QueueEntry.filter).Nodup) (present : ∃ e ∈ s.queue, e.filter = f) :
    (s.fileEntry f rs).entries =
      s.queue.map fun e => (e.filter, if e.filter = f then e.reasons.union rs else e.reasons) := by
  obtain ⟨x, mem, named⟩ := present
  have only : ∀ y ∈ s.queue, y.filter = f → y = x := fun y there same =>
    List.inj_on_of_nodup_map distinct there mem (same.trans named.symm)
  have entry : s.entryOf f = some x := find_entry mem named only
  have stays : ¬ (QueueEntry.urgent { x with reasons := x.reasons.union rs } && !x.urgent) = true := by
    simp [QueueEntry.urgent, Reasons.union, calm]
  have queue : (s.fileEntry f rs).queue = replaceEntry s.queue { x with reasons := x.reasons.union rs } := by
    unfold State.fileEntry
    rw [if_pos may, entry]
    exact congrArg State.queue (if_neg stays)
  unfold State.entries
  rw [queue]
  unfold replaceEntry
  rw [List.map_map]
  refine List.map_congr_left fun y there => ?_
  by_cases same : y.filter = f
  · rw [Function.comp_apply, if_pos (beq_iff_eq.2 (same.trans named.symm)), if_pos same, only y there same]
  · rw [Function.comp_apply, if_neg (fun hit => same ((beq_iff_eq.1 hit).trans named)), if_neg same]

theorem Reasons.union_throughput (r : Reasons) : r.union { throughput := true } = { r with throughput := true } := by
  simp [Reasons.union]

/-! ## The whole pulse -/

/-- A pulse of a quiet state with flow proven that crosses no limit credits and doses, and no more. -/
theorem State.flowPulse_plain (quiet : s.Quiet) (proven : s.flowProven c = true) (takes : s.creditFilter c = some f)
    (noCross : s.settings.throughputLitres ≤ (s.filters.get f).throughput ∨
      (s.filters.get f).throughput + s.settings.litresPerFlowPulse.get c < s.settings.throughputLitres) :
    exec (.flowPulse c) s = .next (((s.pulsed c).creditGiven c f).dosePulse c) := by
  have pulse : s.flowPulse c = ((s.pulsed c).creditGiven c f).dosePulse c := by
    have monitored : s.pulseProven c = s.pulsed c := if_pos proven
    rw [State.flowPulse_eq, monitored, State.credit_below (s := s.pulsed c) takes noCross]
  have pulsed : (s.pulsed c).Quiet := quiet.of_eq rfl rfl rfl
  exact exec_quiet rfl pulse ((pulsed.creditGiven c f).dosePulse c)

/-- The filter `f` credited on circuit `c`, and queued for THROUGHPUT: at the last place, or in the entry that it had. -/
structure State.CreditFiled (s t : State) (c : CircuitId) (f : FilterId) : Prop where
  filters : t.filters = s.filters.set f ((s.filters.get f).credited (s.settings.litresPerFlowPulse.get c))
  pointer : t.creditPointer = s.creditPointer.set c f
  filed : (∀ e ∈ s.queue, e.filter ≠ f) → t.entries = s.entries ++ [(f, { throughput := true })]
  merged : (∃ e ∈ s.queue, e.filter = f) → t.entries = s.queue.map fun e =>
    (e.filter, if e.filter = f then { e.reasons with throughput := true } else e.reasons)

/-- The credit that takes a SERVICE filter to its limit (02 R36, R40). -/
theorem State.creditGiven_filed (c : CircuitId) (distinct : (s.queue.map QueueEntry.filter).Nodup)
    (service : (s.filters.get f).state = .service) :
    s.CreditFiled ((s.creditGiven c f).fileEntry f { throughput := true }) c f := by
  have may : ((s.creditGiven c f).filters.get f).state.mayQueue = true := by
    rw [State.creditGiven_record]
    show (s.filters.get f).state.mayQueue = true
    rw [service]
    rfl
  have queueOnly := QueueOnly.fileEntry (s.creditGiven c f) f { throughput := true }
  refine ⟨queueOnly.filters, (congrArg State.creditPointer queueOnly :), State.fileEntry_last may rfl, fun present => ?_⟩
  rw [State.fileEntry_merged may rfl distinct present]
  simp only [Reasons.union_throughput]
  rfl

theorem State.CreditFiled.settles {u : State} (h : s.CreditFiled t c f) (k : Settles t u)
    (distinct : (t.queue.map QueueEntry.filter).Nodup) : s.CreditFiled u c f where
  filters := k.filters.trans h.filters
  pointer := (congrArg State.creditPointer k.1 :).trans h.pointer
  filed absent := (k.entries distinct).trans (h.filed absent)
  merged present := (k.entries distinct).trans (h.merged present)

/-- A credit after the delivery of flow proof is one of the state before it. -/
theorem State.CreditFiled.of_pulseProven (h : (s.pulseProven c).CreditFiled t c f) : s.CreditFiled t c f := by
  obtain ⟨filters, queue, settings, pointer⟩ := s.pulseProven_keeps c
  obtain ⟨filters', pointer', filed, merged⟩ := h
  unfold State.entries at filed
  rw [filters, settings] at filters'
  rw [pointer] at pointer'
  rw [queue] at filed merged
  exact ⟨filters', pointer', filed, merged⟩

/-- A pulse that takes a filter's load to its limit under plant stop: the credit, and the entry that it files. -/
theorem State.flowPulse_crosses (law : s.QueueLaw) (stopped : s.stopActive = true)
    (service : (s.filters.get f).state = .service) (takes : s.creditFilter c = some f)
    (below : (s.filters.get f).throughput < s.settings.throughputLitres)
    (reaches : s.settings.throughputLitres ≤
      ((s.filters.get f).credited (s.settings.litresPerFlowPulse.get c)).throughput) :
    s.CreditFiled (s.flowPulse c).finishEvent c f := by
  obtain ⟨filters, queue, settings, pointer⟩ := s.pulseProven_keeps c
  have distinct : ((s.pulseProven c).queue.map QueueEntry.filter).Nodup := by
    rw [queue]
    exact law.distinct
  have filed : (s.pulseProven c).CreditFiled ((s.pulseProven c).credit c) c f ∧
      (((s.pulseProven c).credit c).queue.map QueueEntry.filter).Nodup := by
    rw [State.credit_crosses (f := f) (by unfold State.creditFilter; rw [pointer, filters]; exact takes)
      (by rw [filters, settings]; exact below) (by rw [filters, settings]; exact reaches)]
    exact ⟨State.creditGiven_filed c distinct (by rw [filters]; exact service), State.fileEntry_distinct _ f _ distinct⟩
  obtain ⟨ds, ps, dosed⟩ := ((s.pulseProven c).credit c).dosePulse_frame c
  have dosing : Settles ((s.pulseProven c).credit c) (s.flowPulse c) := by
    rw [State.flowPulse_eq, dosed]
    exact ⟨rfl, rfl, fun _ => rfl⟩
  have stopped' : (s.flowPulse c).stopActive = true :=
    (congrArg State.stopActive (PulseOnly.flowPulse s c).1 :).trans stopped
  exact (filed.1.settles (dosing.trans (State.Dormant.finishEvent (.inl stopped'))) filed.2).of_pulseProven

/-- Settles O36: the dose part in closed form, and the credit to the first serving filter after the pointer. -/
theorem pulsesCreditAndDose : Obligations.PulsesCreditAndDose := by
  unfold Obligations.PulsesCreditAndDose
  refine ⟨fun s c law => State.dosePulse_eq law c, ?_⟩
  intro s c f place serves litres limit credited served first
  have takes : s.creditFilter c = some f := State.creditFilter_first served first
  refine ⟨fun quiet proven noCross => State.flowPulse_plain quiet proven takes noCross,
    fun law stopped below reaches => ?_⟩
  obtain ⟨filters, pointer, filed, merged⟩ := State.flowPulse_crosses law stopped served.1 takes below reaches
  exact ⟨_, rfl, filters, pointer, filed, merged⟩

end Sys2Proof.Machine
end

end

section
/-! The proofs of the Backwash Queue and the grant (03) are elaborated one after another too. -/
set_option Elab.async false

section
/-! SUPPORT. Properties that the Selector Drive keeps, whatever the property: one that reads the Filter Table, the queue, the
Line record and the plant state alone, and that the delivery of an outcome keeps, is kept by every travel and by every event
of a selector (05, 06). -/

namespace Sys2Proof.Machine

/-- The Filter Table, the queue, the Line record and the plant state stand. -/
def SameBank (s t : State) : Prop :=
  t.filters = s.filters ∧ t.queue = s.queue ∧ t.line.clean = s.line.clean ∧ t.plant = s.plant

/-- A property of the Filter Table, the queue, the Line record and the plant state that every delivery keeps. -/
structure TravelKept (P : State → Prop) : Prop where
  aside : ∀ {s t : State}, P s → SameBank s t → P t
  deliver : ∀ {s : State} (q : Requester) (f : FilterId) (o : TravelOutcome), P s → P (s.deliver q f o)

namespace TravelKept

variable {P : State → Prop} (hP : TravelKept P) {s : State} {f : FilterId}

include hP

/-! ## Travels (05) -/

theorem updChannel (h : P s) (f : FilterId) (g : Channel → Channel) : P (s.updChannel f g) :=
  hP.aside h ⟨rfl, rfl, rfl, rfl⟩

theorem finishTravel (h : P s) (f : FilterId) (o : TravelOutcome) : P (s.finishTravel f o) := by
  unfold State.finishTravel
  dsimp only
  split
  · exact hP.deliver _ f o (hP.aside h ⟨rfl, rfl, rfl, rfl⟩)
  · exact hP.aside h ⟨rfl, rfl, rfl, rfl⟩

theorem afterStart (h : P s) (f : FilterId) (x : Channel × Option TravelOutcome) : P (s.afterStart f x) := by
  unfold State.afterStart
  dsimp only
  split
  · exact hP.updChannel h f _
  · exact hP.finishTravel (hP.updChannel h f _) f _

theorem startAny (h : P s) (f : FilterId) (stop : Stop) : P (s.startAny f stop) := by
  unfold State.startAny State.startTravel
  split <;> exact hP.afterStart h f _

theorem seatConfirmed (h : P s) (f : FilterId) : P (s.seatConfirmed f) := by
  unfold State.seatConfirmed
  split
  · exact h
  · dsimp only
    split
    · exact hP.finishTravel (hP.updChannel h f _) f _
    · split
      · exact hP.afterStart (hP.updChannel (hP.updChannel h f _) f _) f _
      · exact hP.aside h ⟨rfl, rfl, rfl, rfl⟩

theorem enterSettling (h : P s) (f : FilterId) (stop : Stop) : P (s.enterSettling f stop) := by
  unfold State.enterSettling
  dsimp only
  split
  · exact hP.seatConfirmed (hP.updChannel h f _) f
  · exact hP.updChannel h f _

theorem giveSlot (h : P s) (f : FilterId) : P (s.giveSlot f) := by
  unfold State.giveSlot
  split
  · exact h
  · dsimp only
    split
    · refine hP.startAny ?_ f _
      exact hP.aside h ⟨rfl, rfl, rfl, rfl⟩
    · split
      · refine hP.enterSettling ?_ f _
        exact hP.aside h ⟨rfl, rfl, rfl, rfl⟩
      · refine hP.afterStart ?_ f _
        exact hP.aside h ⟨rfl, rfl, rfl, rfl⟩

theorem handOut (h : P s) : P s.handOut := by
  unfold State.handOut
  generalize s.travelQueue.length = n
  induction n generalizing s with
  | zero => exact h
  | succ n ih =>
    unfold State.handOutUpTo
    split
    · exact h
    · split
      · refine ih (hP.giveSlot ?_ _)
        exact hP.aside h ⟨rfl, rfl, rfl, rfl⟩
      · exact h

theorem endTravel (h : P s) (f : FilterId) (o : TravelOutcome) : P (s.endTravel f o) :=
  hP.handOut (hP.finishTravel h f o)

theorem fileTravel (h : P s) (f : FilterId) (stop : Stop) (q : Requester) : P (s.fileTravel f stop q) := by
  have waits : P (s.fileWaiting f stop q) := hP.handOut (hP.aside h ⟨rfl, rfl, rfl, rfl⟩)
  unfold State.fileTravel
  split
  · unfold State.retarget
    dsimp only
    split <;> exact hP.aside h ⟨rfl, rfl, rfl, rfl⟩
  · split
    · split
      · exact waits
      · exact hP.deliver q f _ h
    · split
      · refine hP.enterSettling ?_ f stop
        exact hP.aside h ⟨rfl, rfl, rfl, rfl⟩
      · exact waits

/-! ## Events of a selector (05, 06) -/

theorem dwellExpiry (h : P s) (f : FilterId) : P (s.dwellExpiry f) := by
  unfold State.dwellExpiry
  split
  · exact h
  · dsimp only
    split
    · exact hP.handOut (hP.afterStart h f _)
    · exact h

theorem emitTowards (h : P s) (f : FilterId) (v cap : Nat) (stop : Stop) : P (s.emitTowards f v cap stop) := by
  unfold State.emitTowards
  dsimp only
  split
  · exact hP.handOut (hP.enterSettling (hP.updChannel h f _) f stop)
  · exact hP.updChannel h f _

theorem overrunInterval (h : P s) (f : FilterId) (p : Nat) (stop : Stop) : P (s.overrunInterval f p stop) := by
  unfold State.overrunInterval
  dsimp only
  split
  · exact hP.updChannel h f _
  · split
    · exact hP.handOut (hP.enterSettling h f stop)
    · exact hP.handOut (hP.afterStart h f _)

theorem surgeInterval (h : P s) (f : FilterId) (p : Nat) (stop : Stop) : P (s.surgeInterval f p stop) := by
  unfold State.surgeInterval
  dsimp only
  split
  · split
    · exact hP.updChannel h f _
    · exact hP.emitTowards h f _ _ stop
  · exact hP.updChannel h f _

theorem travelInterval (h : P s) (f : FilterId) (stop : Stop) : P (s.travelInterval f stop) := by
  have latched : P (s.latchSlow f) := by
    unfold State.latchSlow
    split
    · exact hP.updChannel h f _
    · exact h
  unfold State.travelInterval
  generalize s.latchSlow f = t at latched
  dsimp only
  split
  · exact latched
  · split
    · exact hP.handOut (hP.enterSettling latched f stop)
    · split
      · exact hP.surgeInterval latched f _ stop
      · split
        · exact hP.overrunInterval latched f _ stop
        · exact hP.emitTowards latched f _ _ stop

theorem searchInterval (h : P s) (f : FilterId) : P (s.searchInterval f) := by
  unfold State.searchInterval
  dsimp only
  split
  · exact hP.endTravel (hP.updChannel h f _) f _
  · exact hP.updChannel h f _

theorem homingInterval (h : P s) (f : FilterId) (phase : HomingPhase) : P (s.homingInterval f phase) := by
  unfold State.homingInterval
  split
  · exact hP.updChannel h f _
  · split
    · unfold State.approachInterval
      dsimp only
      split
      · exact hP.handOut (hP.enterSettling (hP.updChannel h f _) f _)
      · exact hP.updChannel h f _
    · exact h
    · exact hP.searchInterval h f
    · exact hP.searchInterval h f

theorem profileInterval (h : P s) (f : FilterId) : P (s.profileInterval f) := by
  unfold State.profileInterval
  split
  · exact h
  · split
    · split
      · exact hP.homingInterval h f _
      · exact hP.travelInterval h f _
    · exact h

theorem torqueChange (h : P s) (f : FilterId) (d : Dir) (b : Bool) : P (s.torqueChange f d b) := by
  unfold State.torqueChange
  dsimp only
  split
  · exact hP.endTravel (hP.updChannel h f _) f _
  · exact hP.updChannel h f _

theorem detentClose (h : P s) (f : FilterId) : P (s.detentClose f) := by
  unfold State.detentClose
  dsimp only
  split
  · exact hP.handOut (hP.seatConfirmed (hP.updChannel h f _) f)
  · exact hP.updChannel h f _

theorem settleTimeout (h : P s) (f : FilterId) : P (s.settleTimeout f) := by
  unfold State.settleTimeout
  dsimp only
  split
  · exact hP.endTravel h f _
  · exact h

theorem homeEdgeFails (h : P s) (f : FilterId) : P (s.homeEdgeFails f) := by
  unfold State.homeEdgeFails
  dsimp only
  split
  · exact hP.endTravel (hP.updChannel h f _) f _
  · exact hP.updChannel h f _

theorem homeFlagGoes (h : P s) (f : FilterId) (b : Bool) : P (s.homeFlagGoes f b) := by
  unfold State.homeFlagGoes
  split
  · exact hP.homeEdgeFails h f
  · exact h

theorem homeEdgeRaw (h : P s) (f : FilterId) (b : Bool) : P (s.homeEdgeRaw f b) :=
  hP.updChannel (hP.homeFlagGoes h f b) f _

theorem resync (h : P s) (f : FilterId) (stop : Stop) (e : EdgeRecord) : P (s.resync f stop e) := by
  unfold State.resync
  dsimp only
  split
  · split
    · split
      · exact hP.handOut (hP.enterSettling (hP.updChannel h f _) f stop)
      · exact hP.updChannel h f _
    · exact hP.endTravel h f _
  · exact h

theorem homeFound (h : P s) (f : FilterId) (e : EdgeRecord) : P (s.homeFound f e) := by
  unfold State.homeFound
  dsimp only
  split
  · exact hP.updChannel h f _
  · split
    · exact hP.handOut (hP.enterSettling (hP.updChannel h f _) f _)
    · have passed := hP.updChannel (hP.updChannel h f fun ch =>
        { ch with position := some ((1595 + e.steps) % Config.revolution), homing := some .approach, search := 0 }) f
        fun ch => { ch with homing := none, speed := 0, residue := 0 }
      split
      · exact hP.handOut (hP.afterStart passed f _)
      · exact passed

theorem takeRise (h : P s) (f : FilterId) (e : EdgeRecord) : P (s.takeRise f e) := by
  unfold State.takeRise
  split
  · exact h
  · split
    · split
      · exact hP.homeFound h f e
      · exact hP.resync h f _ e
      · exact h
      · exact h
    · exact h

theorem homeEdgeConfirmed (h : P s) (f : FilterId) (b : Bool) : P (s.homeEdgeConfirmed f b) := by
  have noted := hP.homeFlagGoes (hP.updChannel h f fun ch => { ch with home := b }) f b
  have cleared := hP.updChannel noted f fun ch => { ch with edge := none }
  unfold State.homeEdgeConfirmed
  dsimp only
  split
  · split
    · exact cleared
    · exact hP.takeRise cleared f _
  · unfold State.takeFall
    split
    · exact hP.updChannel cleared f _
    · exact cleared

end TravelKept

end Sys2Proof.Machine
end

section
/-! SUPPORT. The queue law (03 R47) with what it rests on in SETUP, kept by what changes neither the Filter Table nor the
queue, by the records of the table, and by every delivery and travel. -/

namespace Sys2Proof.Machine

variable {s t : State} {f : FilterId}

theorem State.BankLaw.aside (h : s.BankLaw) (same : SameBank s t) : t.BankLaw := by
  obtain ⟨filters, queue, clean, plant⟩ := same
  refine ⟨⟨?_, ?_, ?_⟩, ?_⟩
  · rw [queue, filters]; exact h.queue.states
  · rw [queue]; exact h.queue.distinct
  · rw [queue]; exact h.queue.order
  · unfold State.SetupLaw
    rw [plant, clean, filters]
    exact h.setup

/-- A filter record whose new state allows the entries that the filter has, and SETUP if the plant is there. -/
theorem State.BankLaw.updFilter (h : s.BankLaw) {g : FilterRecord → FilterRecord}
    (may : (g (s.filters.get f)).state.mayQueue = true ∨ ∀ e ∈ s.queue, e.filter ≠ f)
    (fresh : s.plant = .setup → (g (s.filters.get f)).state = .unknown ∨ (g (s.filters.get f)).state = .fault) :
    (s.updFilter f g).BankLaw := by
  refine ⟨⟨fun e mem => ?_, h.queue.distinct, h.queue.order⟩, fun setup => ⟨(h.setup setup).1, fun q => ?_⟩⟩
  · rw [State.updFilter_filters, Bank.get_set]
    split
    · next here => exact may.resolve_right fun absent => absent e mem here
    · exact h.queue.states e mem
  · rw [State.updFilter_filters, Bank.get_set]
    split
    · exact fresh setup
    · exact (h.setup setup).2 q

/-- A filter record changed but for its state. -/
theorem State.BankLaw.updRecord (h : s.BankLaw) {g : FilterRecord → FilterRecord}
    (same : (g (s.filters.get f)).state = (s.filters.get f).state) : (s.updFilter f g).BankLaw := by
  refine h.updFilter ?_ fun setup => by rw [same]; exact (h.setup setup).2 f
  by_cases entry : ∃ e ∈ s.queue, e.filter = f
  · obtain ⟨e, mem, rfl⟩ := entry
    exact .inl (same ▸ h.queue.states e mem)
  · exact .inr fun e mem named => entry ⟨e, mem, named⟩

/-- A filter that may not be queued enters another state, the plant not being in SETUP. -/
theorem State.BankLaw.moveFilter (h : s.BankLaw) (st : FilterState) (g : FilterRecord → FilterRecord)
    (absent : ∀ e ∈ s.queue, e.filter ≠ f) (fresh : s.plant = .setup → st = .unknown ∨ st = .fault) :
    (s.moveFilter f st g).BankLaw := by
  refine (h.updFilter (f := f) (g := fun r => (g r).enter st s.settings.dpHold) (.inr absent) ?_).aside
    ⟨rfl, rfl, rfl, rfl⟩
  simpa using fresh

theorem State.BankLaw.postTo (h : s.BankLaw) (c : Option CircuitId) (n : Notice) : (s.postTo c n).BankLaw := by
  rw [State.postTo_frame]
  exact h.aside ⟨rfl, rfl, rfl, rfl⟩

/-- Entry to FAULT changes no other filter's state (01 R9). -/
theorem State.faultRecorded_state (s : State) (f : FilterId) (kind : FaultKind) (g : FilterId) :
    ((s.faultRecorded f kind).filters.get g).state = if g = f then .fault else (s.filters.get g).state := by
  have moved : ((s.moveFilter f .fault fun r => r.faulted kind).filters.get g).state =
      if g = f then .fault else (s.filters.get g).state := by
    show ((s.filters.set f _).get g).state = _
    rw [Bank.get_set]
    split <;> simp
  unfold State.faultRecorded
  dsimp only
  rw [State.setQueue_filters]
  split
  · rw [State.loseCover_state, moved]
  · exact moved

/-- Entry to FAULT, which takes the filter's entry with it, keeps the law whatever the filter's state was (01 R9). -/
theorem State.BankLaw.faultFilter (h : s.BankLaw) (f : FilterId) (kind : FaultKind) : (s.faultFilter f kind).BankLaw := by
  by_cases fault : (s.filters.get f).state = .fault
  · unfold State.faultFilter
    rw [if_pos fault]
    exact h
  have frame := s.faultRecorded_frame f kind
  have queue : (s.faultRecorded f kind).queue = Machine.removeEntry s.queue f := (congrArg State.queue frame :)
  have recorded : (s.faultRecorded f kind).BankLaw := by
    refine ⟨⟨fun e mem => ?_, ?_, ?_⟩, fun setup => ⟨?_, fun g => ?_⟩⟩
    · rw [queue] at mem
      obtain ⟨there, other⟩ := mem_removeEntry mem
      rw [State.faultRecorded_state, if_neg other]
      exact h.queue.states e there
    · rw [queue]; exact removeEntry_nodup f h.queue.distinct
    · rw [queue]; exact removeEntry_order f h.queue.order
    · have clean : (s.faultRecorded f kind).line.clean = s.line.clean := (congrArg (fun t : State => t.line.clean) frame :)
      rw [clean]
      exact (h.setup ((congrArg State.plant frame :).symm.trans setup)).1
    · rw [State.faultRecorded_state]
      split
      · exact .inr rfl
      · exact (h.setup ((congrArg State.plant frame :).symm.trans setup)).2 g
  rw [State.faultFilter_eq fault]
  have posted : ((s.faultRecorded f kind).post .plant .filterFault).BankLaw := recorded.aside ⟨rfl, rfl, rfl, rfl⟩
  exact State.BankLaw.aside (posted.postTo (s.filters.get f).circuit .filterFault) ⟨rfl, rfl, rfl, rfl⟩

theorem State.BankLaw.filterArrived (h : s.BankLaw) (f : FilterId) : (s.filterArrived f).BankLaw := by
  by_cases still : s.Still f
  · unfold State.filterArrived
    rcases still.state with e | e <;> rw [e] <;> exact h
  · exact ((Reacts.refl s).filterArrived still).bank h

theorem State.BankLaw.filterOutcome (h : s.BankLaw) (f : FilterId) (o : TravelOutcome) : (s.filterOutcome f o).BankLaw := by
  unfold State.filterOutcome
  split
  · exact h.filterArrived f
  · dsimp only
    split
    · exact ((Reacts.refl _).reportHoming f).bank (h.faultFilter f _)
    · exact h.faultFilter f _

theorem bankLaw_travelKept : TravelKept State.BankLaw where
  aside := State.BankLaw.aside
  deliver q f o h := by
    cases q with
    | backwashLine => exact ((Reacts.refl _).lineOutcome f o).bank h
    | allocator | maintenance | homing => exact h.filterOutcome f o

end Sys2Proof.Machine
end

section
/-! SUPPORT. The homing of the bank (11 R202) from a bank as SETUP or RESTART leaves it: a filter whose turn has not come is
UNKNOWN or in FAULT, and so without an entry. -/

namespace Sys2Proof.Machine

variable {s t : State} {f : FilterId} {l : List FilterId}

/-- No clean is on the Line, and the filters of a list are as in SETUP: UNKNOWN, or in FAULT. -/
def State.Unhomed (s : State) (l : List FilterId) : Prop :=
  s.line.clean = none ∧ ∀ g ∈ l, (s.filters.get g).state = .unknown ∨ (s.filters.get g).state = .fault

namespace State.Unhomed

theorem of_eq (h : s.Unhomed l) (filters : t.filters = s.filters) (clean : t.line.clean = s.line.clean) : t.Unhomed l := by
  unfold State.Unhomed
  rw [filters, clean]
  exact h

theorem queueOnly (h : s.Unhomed l) (k : QueueOnly s t) : t.Unhomed l :=
  h.of_eq k.filters (congrArg (fun u : State => u.line.clean) k :)

/-- A filter that is not of the list takes any state. -/
theorem moveFilter (h : s.Unhomed l) (st : FilterState) (g : FilterRecord → FilterRecord) (other : f ∉ l) :
    (s.moveFilter f st g).Unhomed l := by
  refine ⟨h.1, fun q mem => ?_⟩
  have apart : q ≠ f := fun e => other (e ▸ mem)
  rw [show (s.moveFilter f st g).filters.get q = s.filters.get q from Bank.get_set_ne _ apart _]
  exact h.2 q mem

theorem notMem (h : s.Unhomed l) (unknown : (s.filters.get f).state ≠ .unknown) (fault : (s.filters.get f).state ≠ .fault) :
    f ∉ l :=
  fun mem => (h.2 f mem).elim unknown fault

theorem reportHoming (h : s.Unhomed l) (f : FilterId) : (s.reportHoming f).Unhomed l := by
  unfold State.reportHoming
  split
  · dsimp only
    split
    · unfold State.enterRunning State.filterChanged State.needPass
      refine h.of_eq ?_ ?_ <;> simp [State.post]
    · exact h
  · exact h

theorem filterArrived (h : s.Unhomed l) (f : FilterId) : (s.filterArrived f).Unhomed l := by
  unfold State.filterArrived
  split
  · next e =>
    have moved := h.moveFilter (f := f) .service id (h.notMem (by rw [e]; decide) (by rw [e]; decide))
    have joined := moved.queueOnly (QueueOnly.postTo _ (s.filters.get f).circuit .filterJoined)
    exact (joined.queueOnly (QueueOnly.checkLoads _ f)).queueOnly (QueueOnly.withDue _ _)
  · next e => exact h.moveFilter .standby id (h.notMem (by rw [e]; decide) (by rw [e]; decide))
  · next e => exact h.moveFilter .outOfUse id (h.notMem (by rw [e]; decide) (by rw [e]; decide))
  · next e =>
    have moved := h.moveFilter (f := f) .standby id (h.notMem (by rw [e]; decide) (by rw [e]; decide))
    unfold State.arriveHoming
    dsimp only
    refine reportHoming (queueOnly ?_ (QueueOnly.withDue _ _)) f
    split
    · exact moved.queueOnly (QueueOnly.fileEntry _ f _)
    · exact moved
  all_goals exact h

theorem faultFilter (h : s.Unhomed l) (f : FilterId) (kind : FaultKind) : (s.faultFilter f kind).Unhomed l := by
  by_cases fault : (s.filters.get f).state = .fault
  · unfold State.faultFilter
    rw [if_pos fault]
    exact h
  · rw [State.faultFilter_eq fault, State.postTo_frame]
    refine ⟨(congrArg (fun u : State => u.line.clean) (s.faultRecorded_frame f kind) :).trans h.1, fun g mem => ?_⟩
    show ((s.faultRecorded f kind).filters.get g).state = _ ∨ ((s.faultRecorded f kind).filters.get g).state = _
    rw [State.faultRecorded_state]
    split
    · exact .inr rfl
    · exact h.2 g mem

theorem travelKept (l : List FilterId) : TravelKept fun s => s.Unhomed l where
  aside h same := h.of_eq same.1 same.2.2.1
  deliver {s} q f o h := by
    have outcome : (s.filterOutcome f o).Unhomed l := by
      unfold State.filterOutcome
      split
      · exact h.filterArrived f
      · dsimp only
        split
        · exact (h.faultFilter f _).reportHoming f
        · exact h.faultFilter f _
    cases q with
    | backwashLine =>
      show (s.lineOutcome f o).Unhomed l
      unfold State.lineOutcome
      rw [h.1]
      exact h
    | allocator | maintenance | homing => exact outcome

end State.Unhomed

/-- A filter whose turn has come homes, and leaves those whose turn has not as they are. -/
theorem State.BankLaw.startHomingOf (h : s.BankLaw) (running : s.plant ≠ .setup) (unhomed : s.Unhomed (f :: l))
    (once : f ∉ l) : (s.startHomingOf f).BankLaw ∧ (s.startHomingOf f).plant ≠ .setup ∧ (s.startHomingOf f).Unhomed l := by
  have absent : ∀ e ∈ s.queue, e.filter ≠ f := BankLaw.no_entry h (by
    rcases unhomed.2 f List.mem_cons_self with e | e <;> rw [e] <;> rfl)
  have moved : (s.moveFilter f .homing id).BankLaw := h.moveFilter .homing id absent fun setup => absurd setup running
  have others : s.Unhomed l := ⟨unhomed.1, fun g mem => unhomed.2 g (List.mem_cons_of_mem _ mem)⟩
  have travels : Reacts (s.moveFilter f .homing id) (s.startHomingOf f) :=
    (Reacts.refl _).fileTravel .closed .homing (s.moveFilter_not_still f id (by decide) (by decide))
  refine ⟨travels.bank moved, fun setup => ?_,
    (State.Unhomed.travelKept l).fileTravel (others.moveFilter .homing id once) f .closed .homing⟩
  rcases travels.undisturbed.plant with same | runs
  · exact running (same.symm.trans setup)
  · rw [runs] at setup; cases setup

/-- The homing of a bank of which every filter is UNKNOWN or in FAULT, with an idle Line (11 R202). -/
theorem State.BankLaw.homeBank (h : State.BankLaw { s with plant := .homing, bankHoming := Bank.all true })
    (unhomed : s.Unhomed allFilters) : s.homeBank.BankLaw := by
  have fold : ∀ {l : List FilterId} {u : State}, l.Nodup → u.BankLaw → u.plant ≠ .setup → u.Unhomed l →
      (l.foldl (fun t f => t.startHomingOf f) u).BankLaw := by
    intro l
    induction l with
    | nil => exact fun _ law _ _ => law
    | cons f l ih =>
      intro u once law running rest
      obtain ⟨fresh, distinct⟩ := List.nodup_cons.1 once
      obtain ⟨law', running', rest'⟩ := law.startHomingOf running rest fresh
      exact ih distinct law' running' rest'
  exact fold (by decide) h (by simp) unhomed

end Sys2Proof.Machine
end

section
/-! SUPPORT. The events of the meters, the loads, the Line and the supervisor keep the queue law (02 to 04, 07, 08). -/

namespace Sys2Proof.Machine

variable {s : State} {f : FilterId} {c : CircuitId}

namespace State.BankLaw

theorem withDue (h : s.BankLaw) (d : Due) : State.BankLaw { s with due := d } := h.aside ⟨rfl, rfl, rfl, rfl⟩

theorem filterChanged (h : s.BankLaw) : s.filterChanged.BankLaw := h.aside ⟨rfl, rfl, rfl, rfl⟩

theorem post (h : s.BankLaw) (p : PortId) (n : Notice) : (s.post p n).BankLaw := h.aside ⟨rfl, rfl, rfl, rfl⟩

theorem finishEvent (h : s.BankLaw) : s.finishEvent.BankLaw := (Reacts.refl s).finishEvent.bank h

theorem fileEntry (h : s.BankLaw) (f : FilterId) (r : Reasons) : (s.fileEntry f r).BankLaw :=
  ((Reacts.refl s).fileEntry f r).bank h

theorem dropEntry (h : s.BankLaw) (f : FilterId) : (s.dropEntry f).BankLaw := ((Reacts.refl s).dropEntry f).bank h

theorem formAllReasons (h : s.BankLaw) (g : Interlocks → Interlocks) : (s.formAllReasons g).BankLaw :=
  h.aside ⟨by simp, by simp, by simp, by simp⟩

theorem formDose (h : s.BankLaw) (c : CircuitId) (d : Nat) (r : Interlocks) : (s.formDose c d r).BankLaw :=
  h.aside ⟨by simp, by simp, by simp, by simp⟩

/-! ## Flow, waste and loads (02, 03) -/

theorem credit (h : s.BankLaw) (c : CircuitId) : (s.credit c).BankLaw := by
  unfold State.credit
  split
  · next f _ =>
    have pointed : State.BankLaw { s with creditPointer := s.creditPointer.set c f } := h.aside ⟨rfl, rfl, rfl, rfl⟩
    have credited := pointed.updRecord (f := f) (g := fun r => r.credited (s.settings.litresPerFlowPulse.get c)) rfl
    unfold State.creditTo
    dsimp only
    split
    · exact ((Reacts.refl _).checkThroughput f).bank credited
    · exact credited
  · exact h.post _ _

theorem flowPulse (h : s.BankLaw) (c : CircuitId) : (s.flowPulse c).BankLaw := by
  obtain ⟨filters, queue, -, -⟩ := s.pulseProven_keeps c
  have frame := (PulseOnly.pulseProven s c).1
  have proven : (s.pulseProven c).BankLaw :=
    h.aside ⟨filters, queue, (congrArg (fun t : State => t.line.clean) frame :), (congrArg State.plant frame :)⟩
  obtain ⟨ds, ps, dosed⟩ := ((s.pulseProven c).credit c).dosePulse_frame c
  rw [State.flowPulse_eq, dosed]
  exact (proven.credit c).aside ⟨rfl, rfl, rfl, rfl⟩

theorem flowProofExpiry (h : s.BankLaw) (c : CircuitId) : (s.flowProofExpiry c).BankLaw := by
  unfold State.flowProofExpiry
  split
  · obtain ⟨ds, ps, d, frame⟩ := (s.updFlow c fun r => { r with proofTimer := none }).deliverFlowProof_frame c false
    rw [frame]
    exact h.aside ⟨rfl, rfl, rfl, rfl⟩
  · exact h

theorem spendWaste (h : s.BankLaw) : s.spendWaste.BankLaw := by
  unfold State.spendWaste
  dsimp only
  split <;> split <;> exact h.aside ⟨rfl, rfl, rfl, rfl⟩

theorem wastePulse (h : s.BankLaw) : s.wastePulse.BankLaw := by
  unfold State.wastePulse
  rw [State.pulseWasteMeter_eq]
  have raised : s.raiseWasteMeter.BankLaw := h.aside ⟨rfl, rfl, rfl, rfl⟩
  exact (Reacts.refl _).lineWastePulse.bank raised.spendWaste

theorem runTimeMinute (h : s.BankLaw) (f : FilterId) : (s.runTimeMinute f).BankLaw := by
  have counted := h.updRecord (f := f) (g := fun r => { r with runTime := min (r.runTime + 1) Config.count16Max }) rfl
  unfold State.runTimeMinute
  dsimp only
  split
  · split
    · exact ((Reacts.refl _).checkRunTime f).bank counted
    · exact counted
  · exact h

theorem recheck (h : s.BankLaw) (f : FilterId) : (s.recheck f).BankLaw := by
  unfold State.recheck
  split
  · exact ((Reacts.refl s).checkLoads f).bank h
  · exact h

theorem dpSwitched (h : s.BankLaw) (f : FilterId) (b : Bool) (n : Nat) :
    (s.updFilter f fun r => r.dpSwitched b n).BankLaw := by
  refine h.updRecord ?_
  unfold FilterRecord.dpSwitched
  split <;> rfl

theorem dpHoldExpiry (h : s.BankLaw) (f : FilterId) : (s.dpHoldExpiry f).BankLaw := by
  unfold State.dpHoldExpiry
  split
  · next n _ =>
    have expired := h.updRecord (f := f) (g := fun r => { r with dpTimer := .expired n }) rfl
    dsimp only
    split
    · exact expired.fileEntry f _
    · exact expired.faultFilter f _
  all_goals exact h

/-! ## The Line (03, 04) -/

theorem bwStartChange (h : s.BankLaw) (b : Bool) : (s.bwStartChange b).BankLaw := by
  have level : State.BankLaw { s with waste := { s.waste with bwStart := b } } := h.aside ⟨rfl, rfl, rfl, rfl⟩
  unfold State.bwStartChange
  split
  · exact h
  · dsimp only
    split
    · exact ((Reacts.refl _).lineLevel.bank level).withDue _
    · exact level

theorem lowLowChange (h : s.BankLaw) (b : Bool) : (s.lowLowChange b).BankLaw := by
  have level : State.BankLaw { s with waste := { s.waste with lowLow := b } } := h.aside ⟨rfl, rfl, rfl, rfl⟩
  unfold State.lowLowChange
  split
  · exact h
  · dsimp only
    split
    · exact (Reacts.refl _).lineSuspend.bank level
    · exact (Reacts.refl _).lineLevel.bank level

theorem lineFlowExpiry (h : s.BankLaw) : s.lineFlowExpiry.BankLaw := by
  have unavailable : s.lineUnavailable.BankLaw := h.aside ⟨rfl, rfl, rfl, rfl⟩
  unfold State.lineFlowExpiry
  split
  · exact h
  · next r clean =>
    have returns (x : LineRecord) (same : x.filter = r.filter) : (s.lineUnavailable.beginReturning x).BankLaw :=
      ((Reacts.refl s.lineUnavailable).beginReturning (r := r) clean same).bank unavailable
    split
    · split <;> exact returns _ rfl
    · exact h

/-! ## The supervisor (05, 07, 08) -/

theorem postAll (h : s.BankLaw) (n : Notice) : (s.postAll n).BankLaw := by
  obtain ⟨ps, frame⟩ := s.postAll_frame n
  rw [frame]
  exact h.aside ⟨rfl, rfl, rfl, rfl⟩

theorem stopOpens (h : s.BankLaw) : s.stopOpens.BankLaw := by
  have stopped : State.BankLaw { s with stopActive := true } := h.aside ⟨rfl, rfl, rfl, rfl⟩
  have paused : (State.postAll { s with stopActive := true } .plantStopped).pauseMoving.BankLaw := by
    obtain ⟨cs, frame⟩ := (State.postAll { s with stopActive := true } .plantStopped).pauseMoving_frame
    rw [frame]
    exact (stopped.postAll .plantStopped).aside ⟨rfl, rfl, rfl, rfl⟩
  unfold State.stopOpens
  split
  · exact h.aside ⟨rfl, rfl, rfl, rfl⟩
  · split
    · exact h
    · exact ((Reacts.refl _).lineStop.bank paused).formAllReasons _

theorem stopCloses (h : s.BankLaw) : s.stopCloses.BankLaw := by
  have released : State.BankLaw { s with stopActive := false, stopRead := true, free := s.free + 1 } :=
    h.aside ⟨rfl, rfl, rfl, rfl⟩
  have reactions (u : State) (o : ReleaseOrder) : Reacts u (u.release o) := by
    cases o
    · exact (Reacts.refl u).resumeAll.lineRecover.takePass
    · exact (Reacts.refl u).resumeAll.takePass.lineRecover
    · exact (Reacts.refl u).lineRecover.resumeAll.takePass
    · exact (Reacts.refl u).lineRecover.takePass.resumeAll
    · exact (Reacts.refl u).takePass.resumeAll.lineRecover
    · exact (Reacts.refl u).takePass.lineRecover.resumeAll
  unfold State.stopCloses
  split
  · unfold State.releasePlant
    refine filterChanged ((reactions _ _).bank (formAllReasons ?_ _))
    split
    · exact released.postAll _
    · exact released
  · exact h

theorem surgeChange (h : s.BankLaw) (b : Bool) : (s.surgeChange b).BankLaw := by
  have level (b : Bool) : State.BankLaw { s with surge := b } := h.aside ⟨rfl, rfl, rfl, rfl⟩
  unfold State.surgeChange
  split
  · exact h
  · split
    · exact level true
    · exact (Reacts.refl _).resumeAll.bank (level false)

theorem bulkLowChange (h : s.BankLaw) (b : Bool) : (s.bulkLowChange b).BankLaw := by
  have level : State.BankLaw { s with bulkLow := b } := h.aside ⟨rfl, rfl, rfl, rfl⟩
  have formed := level.formAllReasons fun r => { r with bulkEmpty := b }
  unfold State.bulkLowChange
  split
  · exact h
  · dsimp only
    split
    · exact formed.post _ _
    · exact formed

theorem formUnconfirmed (h : s.BankLaw) (c : CircuitId) : (s.formUnconfirmed c).BankLaw := h.formDose c _ _

theorem silenceExpiry (h : s.BankLaw) (c : CircuitId) : (s.silenceExpiry c).BankLaw := by
  unfold State.silenceExpiry
  dsimp only
  split
  · refine filterChanged (formUnconfirmed ?_ c)
    exact h.aside ⟨rfl, rfl, rfl, rfl⟩
  · exact h

theorem pacingExpiry (h : s.BankLaw) (c : CircuitId) : (s.pacingExpiry c).BankLaw := by
  unfold State.pacingExpiry
  split
  · exact h.aside ⟨rfl, rfl, rfl, rfl⟩
  · exact h

/-! ## A detent that opens (06 R121, R122) -/

theorem lossAtRest (h : s.BankLaw) (f : FilterId) : (s.lossAtRest f).BankLaw := by
  have lost := bankLaw_travelKept.updChannel h f fun ch => { ch with state := .faulted, position := none, seated := false }
  unfold State.lossAtRest
  dsimp only
  split
  · unfold State.lineDetentLoss
    split
    · exact lost
    · next clean =>
      split
      · exact ((Reacts.refl _).faultClean clean _).bank lost
      · exact lost
  · unfold State.filterDetentLoss
    split
    · exact lost.faultFilter f _
    · exact lost.faultFilter f _
    all_goals exact lost

theorem detentOpen (h : s.BankLaw) (f : FilterId) : (s.detentOpen f).BankLaw := by
  have opened := bankLaw_travelKept.updChannel h f fun ch => { ch with detent := false }
  unfold State.detentOpen
  dsimp only
  split
  · split
    · exact opened.lossAtRest f
    any_goals exact bankLaw_travelKept.endTravel opened f _
    all_goals exact opened
  · exact opened

end State.BankLaw

end Sys2Proof.Machine
end

section
/-! O11: the requests, the frames and every step keep the queue law (08 to 11). -/

namespace Sys2Proof.Machine

variable {s t : State} {f : FilterId} {c : CircuitId}

namespace State.BankLaw

/-! ## Circuit demands and settings (08, 11) -/

theorem foldl {α : Type} {g : State → α → State} (hg : ∀ (s : State) (x : α), s.BankLaw → (g s x).BankLaw)
    (l : List α) (h : s.BankLaw) : (l.foldl g s).BankLaw := by
  induction l generalizing s with
  | nil => exact h
  | cons x l ih => exact ih (hg s x h)

theorem storeDemand (h : s.BankLaw) (c : CircuitId) (w m : Nat) : (s.storeDemand c w m).BankLaw := by
  unfold State.storeDemand
  dsimp only
  split
  · exact h
  · exact h.aside ⟨rfl, rfl, rfl, rfl⟩

theorem reclamp (h : s.BankLaw) (c : CircuitId) : (s.reclamp c).BankLaw := by
  unfold State.reclamp
  dsimp only
  split
  · exact (h.formDose c _ _).withDue _
  · exact h

theorem storeMode (h : s.BankLaw) (c : CircuitId) (m : Mode) : (s.storeMode c m).BankLaw := by
  have stored : (s.updCircuit c fun k => { k with mode := m }).BankLaw := h.aside ⟨rfl, rfl, rfl, rfl⟩
  unfold State.storeMode
  split
  · exact h
  · exact (stored.reclamp c).filterChanged

theorem storeDose (h : s.BankLaw) (c : CircuitId) (d : Nat) : (s.storeDose c d).BankLaw := by
  have confirmed : (s.updCircuit c fun k => { k with confirmed := true }).BankLaw := h.aside ⟨rfl, rfl, rfl, rfl⟩
  unfold State.storeDose
  dsimp only
  split
  · exact confirmed.formDose c _ _
  · exact (confirmed.formDose c _ _).withDue _

theorem reclampAll (h : s.BankLaw) (b : Bool) : (s.reclampAll b).BankLaw :=
  foldl (fun u c k => by
    split
    · exact k.reclamp c
    · exact k) _ h

theorem clampAccumulator (h : s.BankLaw) (c : CircuitId) : (s.clampAccumulator c).BankLaw := h.aside ⟨rfl, rfl, rfl, rfl⟩

theorem storeSetting (h : s.BankLaw) (i : Item) (v : Nat) : (s.storeSetting i v).BankLaw := by
  have written : State.BankLaw { s with settings := s.settings.write i v } := h.aside ⟨rfl, rfl, rfl, rfl⟩
  unfold State.storeSetting
  split
  · exact h
  · unfold State.deliverSetting
    split
    · exact h.aside ⟨rfl, rfl, rfl, rfl⟩
    · exact written.reclampAll false
    · exact written.reclampAll true
    · exact written.clampAccumulator _
    · exact foldl (fun _ c k => k.clampAccumulator c) _ written
    · exact (Reacts.refl _).resumeAll.bank written
    all_goals exact written

/-! ## Starting, restarting and maintenance (01, 11) -/

theorem takeStartPlant (h : s.BankLaw) : s.takeStartPlant.state.BankLaw := by
  unfold State.takeStartPlant
  split
  · exact h
  · next setup =>
    split
    · exact h
    · obtain ⟨idle, fresh⟩ := h.setup (not_not.1 setup)
      exact homeBank ⟨⟨h.queue.states, h.queue.distinct, h.queue.order⟩, fun k => nomatch k⟩ ⟨idle, fun g _ => fresh g⟩

/-- The blocks as RESTART leaves them: every filter UNKNOWN, no entry and no clean (11 R204). -/
theorem cleared (s : State) (p : PlantState) (b : Bank Bool) :
    State.BankLaw { s.cleared with plant := p, bankHoming := b } ∧ s.cleared.Unhomed allFilters := by
  have unknown (g : FilterId) : (s.cleared.filters.get g).state = .unknown := by
    show ((mapBank s.filters FilterRecord.restarted).get g).state = _
    rw [mapBank_get]
    exact FilterRecord.enter_state _ _ _
  exact ⟨⟨⟨fun e mem => (nomatch mem), List.nodup_nil, List.Pairwise.nil⟩, fun _ => ⟨rfl, fun g => .inl (unknown g)⟩⟩,
    rfl, fun g _ => .inl (unknown g)⟩

theorem takeRestart (s : State) : s.takeRestart.state.BankLaw := by
  obtain ⟨ds, ps, frame, -⟩ := s.restartBlocks_frame
  unfold State.takeRestart
  dsimp only
  rw [frame]
  split
  · exact (cleared s s.plant s.bankHoming).1.aside ⟨rfl, rfl, rfl, rfl⟩
  · obtain ⟨law, unhomed⟩ := cleared s .homing (Bank.all true)
    exact homeBank (law.aside ⟨rfl, rfl, rfl, rfl⟩) (unhomed.of_eq rfl rfl)

/-- A filter leaves for the PARK stop with its entry (01 R23). -/
theorem park (h : s.BankLaw) (awake : s.plant ≠ .setup) (f : FilterId) : (s.park f).BankLaw := by
  have gone : ((s.setQueue (removeEntry s.queue f)).moveFilter f .parking fun r =>
      { r with circuit := none, cover := false, faultKind := none }).BankLaw :=
    moveFilter (((Reacts.refl s).removeEntry f).bank h) .parking _ (fun e mem => (mem_removeEntry mem).2)
      fun setup => absurd setup awake
  unfold State.park
  dsimp only
  rw [State.dropEntry_frame]
  refine bankLaw_travelKept.fileTravel ?_ f .park .maintenance
  exact gone.aside ⟨rfl, rfl, rfl, rfl⟩

theorem takeTakeOutOfUse (h : s.BankLaw) (awake : s.plant ≠ .setup) (ps : List Byte) :
    (s.takeTakeOutOfUse ps).state.BankLaw := by
  unfold State.takeTakeOutOfUse
  split
  · split
    · exact h
    · next f _ =>
      unfold State.takeOut
      split
      · exact h.park awake f
      · have told : (s.needPass.postTo (s.filters.get f).circuit .filterLeft).BankLaw := (h.withDue _).postTo _ _
        rw [State.postTo_frame] at told ⊢
        exact told.park awake f
      · next fault =>
        split
        · exact h.park awake f
        · refine dropEntry ?_ f
          exact h.moveFilter .outOfUse _ (BankLaw.no_entry h (by rw [fault]; rfl)) fun setup => absurd setup awake
      all_goals exact h
  · exact h

theorem takeReturnToUse (h : s.BankLaw) (awake : s.plant ≠ .setup) (ps : List Byte) :
    (s.takeReturnToUse ps).state.BankLaw := by
  unfold State.takeReturnToUse
  split
  · split
    · exact h
    · next f _ =>
      by_cases out : (s.filters.get f).state.isOut
      · rw [State.returnToUse_homes out]
        have absent := BankLaw.no_entry h (f := f) (by rcases out with e | e <;> rw [e] <;> rfl)
        exact bankLaw_travelKept.fileTravel (h.moveFilter .homing _ absent fun setup => absurd setup awake) f _ _
      · rw [State.returnToUse_refused out]
        exact h
  · exact h

/-! ## Backwash requests (03, 04) -/

theorem takeRequestBackwash (h : s.BankLaw) (p : PortId) (ps : List Byte) : (s.takeRequestBackwash p ps).state.BankLaw := by
  unfold State.takeRequestBackwash
  split
  · split
    · exact h
    · unfold State.requestBackwash
      dsimp only
      split
      · exact h
      · split
        · exact h
        · split
          · exact h
          · exact h.fileEntry _ _
  · exact h

theorem cancelEntry (h : s.BankLaw) (f : FilterId) : (s.cancelEntry f).BankLaw := (h.dropEntry f).postTo _ _

theorem takeAbortBackwash (h : s.BankLaw) (p : PortId) (ps : List Byte) : (s.takeAbortBackwash p ps).state.BankLaw := by
  unfold State.takeAbortBackwash
  split
  · split
    · exact h
    · unfold State.abortBackwash
      split
      · exact h
      · split
        · exact h.cancelEntry _
        · split
          · exact h
          · next found => exact ((Reacts.refl s).abortClean (State.cleanOf_some found).1).bank h
  · exact h

theorem takePurgeEntry (h : s.BankLaw) (ps : List Byte) : (s.takePurgeEntry ps).state.BankLaw := by
  unfold State.takePurgeEntry
  split
  · split
    · exact h
    · split
      · next f _ _ => exact (h.cancelEntry f).updRecord (g := fun r => { r with rinseOwed := false }) rfl
      · exact h
  · exact h

/-! ## Frames (09, 10) -/

theorem takeSetDemand (h : s.BankLaw) (p : PortId) (ps : List Byte) : (s.takeSetDemand p ps).state.BankLaw := by
  unfold State.takeSetDemand
  split
  · split
    · exact h
    · split
      · exact h.storeDemand _ _ _
      · exact h
  · exact h

theorem takeSetMode (h : s.BankLaw) (p : PortId) (ps : List Byte) : (s.takeSetMode p ps).state.BankLaw := by
  unfold State.takeSetMode
  split
  · split
    · exact h
    · split
      · split
        · exact h
        · exact h.storeMode _ _
      · exact h
  · exact h

theorem takeSetDose (h : s.BankLaw) (p : PortId) (ps : List Byte) : (s.takeSetDose p ps).state.BankLaw := by
  unfold State.takeSetDose
  split
  · split
    · exact h
    · split
      · exact h.storeDose _ _
      · exact h
  · exact h

theorem takeWriteSetting (h : s.BankLaw) (ps : List Byte) : (s.takeWriteSetting ps).state.BankLaw := by
  unfold State.takeWriteSetting
  split
  · split
    · exact h
    · unfold State.writeSetting
      split
      · exact h
      · split
        · exact h
        · split
          · exact h
          · exact h.storeSetting _ _
  · exact h

theorem takeReadCircuit (h : s.BankLaw) (ps : List Byte) : (s.takeReadCircuit ps).state.BankLaw := by
  unfold State.takeReadCircuit
  split
  · split <;> exact h
  · exact h

theorem takeReadFilter (h : s.BankLaw) (ps : List Byte) : (s.takeReadFilter ps).state.BankLaw := by
  unfold State.takeReadFilter
  split
  · split
    · exact h
    · exact h.aside ⟨rfl, rfl, rfl, rfl⟩
  · exact h

theorem takeReadSetting (h : s.BankLaw) (ps : List Byte) : (s.takeReadSetting ps).state.BankLaw := by
  unfold State.takeReadSetting
  split
  · split <;> exact h
  · exact h

theorem takeClearLine (h : s.BankLaw) : s.takeClearLine.state.BankLaw := by
  unfold State.takeClearLine
  split
  · exact h
  · exact h.aside ⟨rfl, rfl, rfl, rfl⟩

/-- A request that passed its checks; those of maintenance have found the plant out of SETUP. -/
theorem handle (h : s.BankLaw) (p : PortId) (k : Kind) (ps : List Byte)
    (awake : k.runningOnly = true → s.plant ≠ .setup) : (s.handle p k ps).state.BankLaw := by
  cases k with
  | setDemand => exact h.takeSetDemand p ps
  | setMode => exact h.takeSetMode p ps
  | setDose => exact h.takeSetDose p ps
  | requestBackwash => exact h.takeRequestBackwash p ps
  | abortBackwash => exact h.takeAbortBackwash p ps
  | readCircuit => exact h.takeReadCircuit ps
  | readFilter => exact h.takeReadFilter ps
  | readSetting => exact h.takeReadSetting ps
  | writeSetting => exact h.takeWriteSetting ps
  | startPlant => exact h.takeStartPlant
  | restart => exact takeRestart s
  | takeOutOfUse => exact h.takeTakeOutOfUse (awake rfl) ps
  | returnToUse => exact h.takeReturnToUse (awake rfl) ps
  | clearLine => exact h.takeClearLine
  | purgeEntry => exact h.takePurgeEntry ps
  | readQueue | ping => exact h
  | readNotices | setAttention | portClear => exact h.aside ⟨rfl, rfl, rfl, rfl⟩

theorem answer (h : s.BankLaw) (p : PortId) (kind : Byte) (ps : List Byte) : (s.answer p kind ps).state.BankLaw := by
  unfold State.answer
  split
  · exact h
  · next k _ =>
    split
    · exact h
    · next passed =>
      refine h.handle p k ps fun only setup => ?_
      have refused : s.check p k ps ≠ none := by
        unfold State.check
        split
        · simp
        · split <;> simp [only, setup]
      exact refused passed

theorem hear (h : s.BankLaw) (p : PortId) (bs : List Byte) : (s.hear p bs).BankLaw := by
  unfold State.hear
  split
  · unfold State.heardFrom
    dsimp only
    split
    · exact h.aside ⟨rfl, rfl, rfl, rfl⟩
    · refine (formUnconfirmed ?_ _).filterChanged.finishEvent
      exact h.aside ⟨rfl, rfl, rfl, rfl⟩
  · exact h
  · exact h

theorem takeRequest (h : s.BankLaw) (p : PortId) (kind : Byte) (ps : List Byte) : (s.takeRequest p kind ps).BankLaw := by
  unfold State.takeRequest
  dsimp only
  split
  · exact h.post p _
  · refine finishEvent ?_
    exact (h.answer p kind ps).aside ⟨rfl, rfl, rfl, rfl⟩

theorem receiveFrame (h : s.BankLaw) (p : PortId) (bs : List Byte) (cut : Bool) : (s.receiveFrame p bs cut).BankLaw := by
  unfold State.receiveFrame
  dsimp only
  split
  · exact h
  · exact (h.hear p bs).aside ⟨rfl, rfl, rfl, rfl⟩
  · exact ((h.hear p bs).takeRequest p _ _).aside ⟨rfl, rfl, rfl, rfl⟩
  · exact (h.hear p bs).aside ⟨rfl, rfl, rfl, rfl⟩

/-! ## Every command and every step -/

theorem powerOn (s : State) (dp : Bank Bool) : (s.powerOn dp).BankLaw where
  queue := ⟨fun _ mem => (nomatch mem), List.nodup_nil, List.Pairwise.nil⟩
  setup _ := ⟨rfl, fun f => by
    obtain ⟨b, e⟩ := FilterRecord.poweredOn_get s dp f
    exact .inl (e ▸ rfl)⟩

theorem exec (h : s.BankLaw) {i : Instr} (k : exec i s = .next t) : t.BankLaw := by
  cases i
  case powerOn dp => cases k; exact powerOn s dp
  case binTimerExpiry => cases k; exact h.aside ⟨rfl, rfl, rfl, rfl⟩
  case dpSwitchChange f b => cases k; exact h.dpSwitched f b _
  case pacingTimerExpiry c => cases k; exact h.pacingExpiry c
  case strokeTimerExpiry c => cases k; exact h.aside ⟨rfl, rfl, rfl, rfl⟩
  case flowPulse c => cases k; exact (h.flowPulse c).finishEvent
  case flowProofExpiry c => cases k; exact (h.flowProofExpiry c).finishEvent
  case wastePulse => cases k; exact h.wastePulse.finishEvent
  case runTimeMinute f => cases k; exact (h.runTimeMinute f).finishEvent
  case recheckExpiry f => cases k; exact (h.recheck f).finishEvent
  case dpHoldExpiry f => cases k; exact (h.dpHoldExpiry f).finishEvent
  case refillTimerExpiry =>
    cases k
    refine finishEvent ?_
    exact h.aside ⟨rfl, rfl, rfl, rfl⟩
  case bwStartChange b => cases k; exact (h.bwStartChange b).finishEvent
  case lowLowChange b => cases k; exact (h.lowLowChange b).finishEvent
  case phaseTimerExpiry => cases k; exact ((Reacts.refl s).linePhaseExpiry.bank h).finishEvent
  case lineFlowProofExpiry => cases k; exact h.lineFlowExpiry.finishEvent
  case suspendTimerExpiry => cases k; exact ((Reacts.refl s).lineSuspendExpiry.bank h).finishEvent
  case plantStopOpens => cases k; exact h.stopOpens.finishEvent
  case plantStopRelease => cases k; exact h.stopCloses.finishEvent
  case surgeChange b => cases k; exact (h.surgeChange b).finishEvent
  case bulkLowChange b => cases k; exact (h.bulkLowChange b).finishEvent
  case silenceTimerExpiry c => cases k; exact (h.silenceExpiry c).finishEvent
  case dwellExpiry f => cases k; exact (bankLaw_travelKept.dwellExpiry h f).finishEvent
  case profileInterval f => cases k; exact (bankLaw_travelKept.profileInterval h f).finishEvent
  case torqueTrip f d b => cases k; exact (bankLaw_travelKept.torqueChange h f d b).finishEvent
  case detentClose f => cases k; exact (bankLaw_travelKept.detentClose h f).finishEvent
  case settleTimeout f => cases k; exact (bankLaw_travelKept.settleTimeout h f).finishEvent
  case detentLossAtRest f => cases k; exact (h.detentOpen f).finishEvent
  case homeEdgeRaw f b => cases k; exact (bankLaw_travelKept.homeEdgeRaw h f b).finishEvent
  case homeEdgeConfirmed f b => cases k; exact (bankLaw_travelKept.homeEdgeConfirmed h f b).finishEvent
  case homeEdgeHoldFails f => cases k; exact (bankLaw_travelKept.homeEdgeFails h f).finishEvent
  all_goals cases k; exact h.receiveFrame _ _ _

theorem step (h : s.BankLaw) (k : Machine.step s = .next t) : t.BankLaw := by
  rcases step_cases k with ⟨-, rfl⟩ | ⟨i, rest, -, taken⟩
  · exact h.aside ⟨by simp, by simp, by simp, by simp⟩
  · refine exec ?_ taken
    exact h.aside ⟨rfl, rfl, rfl, rfl⟩

end State.BankLaw

/-- A queue with at most one entry for a filter holds at most as many entries as there are filters (03 R47). -/
theorem State.QueueLaw.length_le (h : s.QueueLaw) : s.queue.length ≤ 6 := by
  have named : s.queue.map (·.filter) ⊆ allFilters := fun f _ => by cases f <;> decide
  simpa [allFilters] using (h.distinct.subperm named).length_le

/-- Settles O11: every command keeps the law of the bank (`State.BankLaw.exec`), whose queue names no filter twice. -/
theorem queueLawIsKept : Obligations.QueueLawIsKept := fun _ _ h k => ⟨h.step k, (h.step k).queue.length_le⟩

end Sys2Proof.Machine
end

section
/-! SUPPORT. What an event does that owes an evaluation of the grant alone (03 R60); the switches of the tank (04 R79, R80);
O43. -/

namespace Sys2Proof.Machine

variable {s t : State} {r : LineRecord} {p : Phase}

/-! ## The grant alone is owed (03 R60) -/

theorem State.firstEligible_none (h : ∀ e ∈ s.queue, e.eligibility ≠ .eligible) : s.firstEligible = none :=
  List.find?_eq_none.2 fun e mem => by simpa using h e mem

/-- An evaluation of the grant changes nothing where a condition fails or no entry is ELIGIBLE (03 R60). -/
theorem State.tryGrant_nothing (h : s.grantAllowed = false ∨ ∀ e ∈ s.queue, e.eligibility ≠ .eligible) : s.tryGrant = s := by
  rcases h with h | h
  · exact State.tryGrant_none h
  · unfold State.tryGrant
    rw [State.firstEligible_none h, ite_self]

/-- What a quiet state then owes is an evaluation of the grant and nothing else. -/
theorem State.Quiet.settle_needGrant (quiet : s.Quiet) (b : Bool) (n : Nat) :
    State.settle b (n + 1) s.needGrant = State.settle b n s.tryGrant := by
  have paid : { s.needGrant with due := { s.needGrant.due with grant := false } } = s := by
    show { s with due := { s.due with grant := false } } = s
    rw [quiet.due, show { Due.none with grant := false } = s.due from quiet.due.symm]
  conv_lhs => unfold State.settle
  rw [paid, if_neg (by simp [State.needGrant, quiet.due, Due.none]), if_neg (by simp [State.needGrant, quiet.due, Due.none]),
    if_pos (show s.needGrant.due.grant = true from rfl)]

theorem State.Quiet.finishEvent_needGrant (quiet : s.Quiet) (nothing : s.tryGrant = s) : s.needGrant.finishEvent = s := by
  have settled : State.settle true Config.settleRounds s.needGrant = State.settle true Config.settleRounds s := by
    rw [quiet.settle_needGrant, nothing, quiet.settle, quiet.settle]
  have same : s.needGrant.finishEvent = s.finishEvent := by
    unfold State.finishEvent
    rw [settled]
  rw [same, quiet.finishEvent]

/-- A busy Line makes no grant (03 R60). -/
theorem State.grantAllowed_busy (clean : s.line.clean = some r) : s.grantAllowed = false := by
  simp [State.grantAllowed, clean]

/-! ## The two switches (03 R58, 04 R79, R80) -/

/-- The state with the two switches at the given levels. -/
def State.atLevel (s : State) (low high : Bool) : State :=
  { s with waste := { s.waste with lowLow := low, bwStart := high } }

theorem State.Quiet.atLevel (quiet : s.Quiet) (low high : Bool) : (s.atLevel low high).Quiet := quiet.of_eq rfl rfl rfl

theorem State.lowLowChange_rises (clear : s.waste.lowLow = false) :
    s.lowLowChange true = (s.atLevel true s.waste.bwStart).lineSuspend :=
  if_neg (by simp [clear])

theorem State.lowLowChange_clears (low : s.waste.lowLow = true) :
    s.lowLowChange false = (s.atLevel false s.waste.bwStart).lineLevel :=
  if_neg (by simp [low])

theorem State.bwStartChange_rises (below : s.waste.bwStart = false) :
    s.bwStartChange true = (s.atLevel s.waste.lowLow true).lineLevel.needGrant :=
  if_neg (by simp [below])

theorem State.bwStartChange_falls (above : s.waste.bwStart = true) :
    s.bwStartChange false = s.atLevel s.waste.lowLow false :=
  if_neg (by simp [above])

theorem Phase.isRun_iff (p : Phase) : p.isRun = true ↔ p = .backwashRun ∨ p = .rinseRun := by
  cases p <;> decide

theorem State.lineSuspend_run (clean : s.line.clean = some r) (run : r.phase.isRun = true) :
    s.lineSuspend = { s with line := { s.line with pump := false, clean := some { r with
      phase := .suspended, heldPhase := some r.phase, phaseTimer := r.phaseTimer.hold, flowTimer := r.flowTimer.hold,
      suspendTimer := some s.settings.suspendLimit } } } := by
  unfold State.lineSuspend
  rw [clean]
  exact if_pos run

theorem State.lineSuspend_still (still : ∀ r, s.line.clean = some r → ¬ r.phase.isRun = true) : s.lineSuspend = s := by
  unfold State.lineSuspend
  split
  · rfl
  · next r clean => exact if_neg (still r clean)

theorem State.lineResume_idle (idle : s.line.clean = none) : s.lineResume = s := by
  unfold State.lineResume
  rw [idle]

/-- The state of a run phase that goes on, or begins, with the record `x`. -/
def State.runs (s : State) (x : LineRecord) (p : Phase) : State :=
  { s with line := { s.line with pump := true, clean := some { x with phase := p, heldPhase := none, flowTimer := .running,
                                                                      suspendTimer := none } } }

theorem State.lineResume_continues {m : Nat} (clean : s.line.clean = some r) (suspended : r.phase = .suspended)
    (held : r.heldPhase = some p) (timer : r.phaseTimer = .held m) :
    s.lineResume = s.runs { r with phaseTimer := .running m } p := by
  unfold State.lineResume
  simp only [clean, suspended, held, timer]
  rfl

theorem State.lineResume_begins (clean : s.line.clean = some r) (suspended : r.phase = .suspended)
    (held : r.heldPhase = some p) (timer : r.phaseTimer = .stopped) :
    s.lineResume = s.runs { r with counted := 0, phaseTimer := .running (s.settings.phaseMinutes p) } p := by
  unfold State.lineResume
  simp only [clean, suspended, held, timer]
  rfl

theorem State.lineLevel_water (s : State) : (s.atLevel false true).lineLevel = (s.atLevel false true).lineResume := rfl

/-- The switch event that leaves LOW_LOW clear with BW_START above is the Line's resume, and no grant follows from it where
the Line stays busy (04 R80). -/
theorem exec_resumes {c : Instr} {x : LineRecord} (quiet : s.Quiet)
    (event : (c = .lowLowChange false ∧ s.waste.lowLow = true ∧ s.waste.bwStart = true) ∨
      (c = .bwStartChange true ∧ s.waste.lowLow = false ∧ s.waste.bwStart = false))
    (resume : (s.atLevel false true).lineResume = (s.atLevel false true).runs x p) :
    exec c s = .next ((s.atLevel false true).runs x p) := by
  have quiet' : ((s.atLevel false true).runs x p).Quiet := quiet.of_eq rfl rfl rfl
  rcases event with ⟨rfl, low, above⟩ | ⟨rfl, clear, below⟩
  · refine exec_quiet rfl ?_ quiet'
    rw [State.lowLowChange_clears low, above, State.lineLevel_water, resume]
  · show Host.Outcome.next (s.bwStartChange true).finishEvent = _
    rw [State.bwStartChange_rises below, clear, State.lineLevel_water, resume,
      quiet'.finishEvent_needGrant (State.tryGrant_none (State.grantAllowed_busy rfl))]

/-- A rise of the level that resumes no run leaves the evaluation of the grant (03 R58). -/
theorem State.lineLevel_still {low high : Bool} (still : s.line.clean = none ∨ low = true ∨ high = false) :
    (s.atLevel low high).lineLevel = s.atLevel low high := by
  rcases still with idle | rfl | rfl
  · unfold State.lineLevel
    rw [State.lineResume_idle (s := s.atLevel low high) idle, ite_self]
  · rfl
  · exact if_neg (by simp [State.atLevel])

/-- Settles O43: each event by what it does to the Line, from which at most an evaluation of the grant follows. -/
theorem tankSwitchesHoldTheRunPhases : Obligations.TankSwitchesHoldTheRunPhases := by
  unfold Obligations.TankSwitchesHoldTheRunPhases
  intro s quiet level run
  have quietAt (low high : Bool) : (level low high).Quiet := quiet.atLevel low high
  refine ⟨fun clear => ⟨fun r m clean inRun timer => ?_, fun still => ?_⟩,
    fun c r p clean suspended held _ event => ⟨fun m timer => ?_, fun timer => ?_⟩,
    fun low below => ?_, fun above => ?_, fun below still => ?_⟩
  · have hold : r.flowTimer.hold = if r.flowTimer = .stopped then .stopped else .held := by
      cases r.flowTimer <;> rfl
    refine exec_quiet (X := s.lowLowChange true) rfl ?_ (quiet.of_eq rfl rfl rfl)
    rw [State.lowLowChange_rises clear, State.lineSuspend_run (s := s.atLevel true _) clean ((Phase.isRun_iff _).2 inRun), timer,
      hold]
    rfl
  · refine exec_quiet (X := s.lowLowChange true) rfl ?_ (quietAt _ _)
    rw [State.lowLowChange_rises clear]
    exact State.lineSuspend_still fun r clean inRun => still r clean ((Phase.isRun_iff _).1 inRun)
  · exact exec_resumes quiet event (State.lineResume_continues clean suspended held timer)
  · exact exec_resumes quiet event (State.lineResume_begins clean suspended held timer)
  · refine exec_quiet (X := s.lowLowChange false) rfl ?_ (quietAt _ _)
    rw [State.lowLowChange_clears low, below]
    exact State.lineLevel_still (.inr (.inr rfl))
  · exact exec_quiet (X := s.bwStartChange false) rfl (State.bwStartChange_falls above) (quietAt _ _)
  · have rises : s.bwStartChange true = (level s.waste.lowLow true).needGrant := by
      rw [State.bwStartChange_rises below]
      exact congrArg State.needGrant (State.lineLevel_still (still.imp_right .inl))
    refine ⟨(s.bwStartChange true).finishEvent, rfl, ?_, fun none => ?_⟩
    · rw [rises]
      exact (Reacts.refl (level s.waste.lowLow true)).needGrant.finishEvent.undisturbed
    · rw [rises]
      exact (quietAt _ _).finishEvent_needGrant (State.tryGrant_nothing none)

end Sys2Proof.Machine
end

section
/-! SUPPORT. The grant of the Line to the first ELIGIBLE entry (03 R60, R61) and the refill (03 R55); O42. -/

namespace Sys2Proof.Machine

variable {s t : State} {e : QueueEntry} {rest before after : List QueueEntry}

/-! ## Which entry -/

/-- The grant conditions but for the queue's, as R60 lists them. -/
theorem State.grantAllowed_iff (s : State) : s.grantAllowed = true ↔
    s.plant = .running ∧ s.stopActive = false ∧ s.line.clean = none ∧ s.line.available = true ∧ s.waste.bwStart = true ∧
      s.settings.backwashVolume + s.settings.rinseVolume ≤ s.waste.allowance := by
  simp [State.grantAllowed, and_assoc]

theorem State.firstEligible_first (split : s.queue = before ++ e :: after)
    (skipped : ∀ x ∈ before, x.eligibility ≠ .eligible) (eligible : e.eligibility = .eligible) :
    s.firstEligible = some e := by
  have none : before.find? (fun x => x.eligibility == .eligible) = none :=
    List.find?_eq_none.2 fun x mem => by simpa using skipped x mem
  simp [State.firstEligible, split, List.find?_append, none, eligible]

theorem removeEntry_split (others : ∀ x ∈ before ++ after, x.filter ≠ e.filter) :
    removeEntry (before ++ e :: after) e.filter = before ++ after := by
  have kept := removeEntry_self others
  simpa [removeEntry, List.filter_append] using kept

/-! ## What a grant does -/

/-- The state after a grant whose travel must wait, with the entries that stay in the queue (03 R61, 04 R67). -/
def State.granted (s : State) (e : QueueEntry) (rest : List QueueEntry) : State :=
  let t := { s with
    queue := rest, line := { s.line with clean := some (s.newClean e) },
    filters := s.filters.set e.filter { (s.filters.get e.filter).outside .cleaning with releaseOnReturn := false } }
  (t.postTo (s.filters.get e.filter).circuit .backwashStarted).queuedTravel e.filter .backwash .backwashLine

theorem State.grant_waits (split : s.queue = before ++ e :: after) (others : ∀ x ∈ before ++ after, x.filter ≠ e.filter)
    (waits : s.MustWait e.filter .backwash) :
    s.grant e = { s.granted e (before ++ after) with due := { s.due with eval := true, grant := true } } := by
  rw [← removeEntry_split others, ← split]
  unfold State.grant State.granted
  cases (s.filters.get e.filter).circuit <;>
  · refine (State.MustWait.fileTravel (f := e.filter) ?_ _).trans ?_
    · exact ⟨waits.request, waits.elsewhere, waits.held⟩
    · simp only [State.moveFilter, FilterRecord.enter_outside _ (show FilterState.cleaning ≠ .service by decide)]
      rfl

theorem State.granted_withDue (s : State) (e : QueueEntry) (rest : List QueueEntry) (d d' : Due) :
    { State.granted { s with due := d } e rest with due := d' } = { s.granted e rest with due := d' } := by
  unfold State.granted
  cases (s.filters.get e.filter).circuit <;> rfl

theorem State.granted_due (s : State) (e : QueueEntry) (rest : List QueueEntry) : (s.granted e rest).due = s.due := by
  unfold State.granted
  cases (s.filters.get e.filter).circuit <;> rfl

/-- The first ELIGIBLE entry is granted where every condition holds (03 R60, R61). -/
theorem State.tryGrant_first (allowed : s.grantAllowed = true) (fresh : s.due.granted = false)
    (split : s.queue = before ++ e :: after) (skipped : ∀ x ∈ before, x.eligibility ≠ .eligible)
    (eligible : e.eligibility = .eligible) (others : ∀ x ∈ before ++ after, x.filter ≠ e.filter)
    (waits : s.MustWait e.filter .backwash) :
    s.tryGrant = { s.granted e (before ++ after) with due := { s.due with eval := true, grant := true, granted := true } } := by
  unfold State.tryGrant
  rw [if_pos (by simp [allowed, fresh]), State.firstEligible_first split skipped eligible]
  refine (State.grant_waits (s := { s with due := { s.due with granted := true } }) split others ?_).trans ?_
  · exact ⟨waits.request, waits.elsewhere, waits.held⟩
  · exact State.granted_withDue s e _ _ _

/-! ## What follows from a grant -/

/-- A grant to a STANDBY filter leaves the path states and the eligibility of the other entries. -/
theorem State.granted_spent (quiet : s.Quiet) (evaluated : s.Evaluated) (standby : (s.filters.get e.filter).state = .standby)
    (kept : ∀ x ∈ rest, x ∈ s.queue) (others : ∀ x ∈ rest, x.filter ≠ e.filter) {d : Due} (noPass : d.pass = false) :
    State.Spent { s.granted e rest with due := d } ∧
      ∀ c, (s.granted e rest).pathOpen.get c = (s.granted e rest).hasPath c := by
  have frame : ∃ ps, s.granted e rest = { s with
      queue := rest, line := { s.line with clean := some (s.newClean e) },
      filters := s.filters.set e.filter { (s.filters.get e.filter).outside .cleaning with releaseOnReturn := false },
      ports := ps, requests := (s.granted e rest).requests, channels := (s.granted e rest).channels,
      travelQueue := (s.granted e rest).travelQueue } := by
    unfold State.granted
    cases (s.filters.get e.filter).circuit <;> exact ⟨_, rfl⟩
  obtain ⟨ps, frame⟩ := frame
  have evaluated' : State.Evaluated { s with queue := rest } := fun x mem => evaluated x (kept x mem)
  have quiet' : State.Quiet { s with queue := rest } := quiet.of_eq rfl rfl rfl
  rw [frame]
  obtain ⟨stands, paths⟩ := State.offLine_change (s := { s with queue := rest }) (f := e.filter)
    (t := { s.granted e rest with due := d }) (by rw [frame]) (by rw [frame]) (by rw [frame]) (by rw [frame]) (by rw [frame])
    others (by simp [standby]) (by simp [FilterRecord.outside]) evaluated' quiet'
  rw [frame] at stands paths
  exact ⟨⟨stands, State.grantAllowed_busy rfl, fun due => by simp [noPass] at due⟩, paths⟩

theorem State.evalPaths_still (paths : ∀ c, s.pathOpen.get c = s.hasPath c) : s.evalPaths = s :=
  List.foldl_fixed' (fun c => if_pos (paths c)) _

/-- An event that comes to a state with nothing left to do ends there. -/
theorem State.Spent.ends {n : Nat} (spent : t.Spent) (paths : ∀ c, t.pathOpen.get c = t.hasPath c)
    (settled : State.settle true Config.settleRounds s = State.settle true n t) :
    s.finishEvent = { t with due := Due.none } := by
  obtain ⟨d, first, spent'⟩ := spent.settle true n
  obtain ⟨d', second, -⟩ := spent'.settle false Config.settleRounds
  unfold State.finishEvent
  dsimp only
  rw [settled, first, second, State.evalPaths_still (s := { t with due := d' }) paths]

/-! ## The refill (03 R55) -/

/-- The state with WASTE_RATE added to the allowance, at most up to WASTE_CAP. -/
def State.refilled (s : State) : State :=
  { s with waste :=
    { s.waste with allowance := min (s.waste.allowance + s.settings.wasteRate) s.settings.wasteCap } }

theorem exec_refill (s : State) : exec .refillTimerExpiry s = .next s.refilled.needGrant.finishEvent := rfl

theorem State.Quiet.refilled (quiet : s.Quiet) : s.refilled.Quiet := quiet.of_eq rfl rfl rfl

/-- A grant to a STANDBY filter ends the event that owes it: the other entries stand, and the Line is busy. -/
theorem State.Quiet.finishEvent_grant (quiet : s.Quiet) (evaluated : s.Evaluated) (allowed : s.grantAllowed = true)
    (split : s.queue = before ++ e :: after) (skipped : ∀ x ∈ before, x.eligibility ≠ .eligible)
    (eligible : e.eligibility = .eligible) (others : ∀ x ∈ before ++ after, x.filter ≠ e.filter)
    (waits : s.MustWait e.filter .backwash) (standby : (s.filters.get e.filter).state = .standby) :
    s.needGrant.finishEvent = s.granted e (before ++ after) := by
  have grants := State.tryGrant_first allowed (by rw [quiet.due]; rfl) split skipped eligible others waits
  have kept : ∀ x ∈ before ++ after, x ∈ s.queue := fun x mem => by
    rw [split]
    rcases List.mem_append.1 mem with mem | mem <;> simp [mem]
  obtain ⟨spent, paths⟩ := State.granted_spent (d := { s.due with eval := true, grant := true, granted := true })
    quiet evaluated standby kept others (by rw [quiet.due]; rfl)
  have ends := State.Spent.ends (n := 39) spent paths
    ((quiet.settle_needGrant true 39).trans (congrArg (State.settle true 39) grants))
  refine ends.trans ?_
  rw [← quiet.due, ← State.granted_due s e (before ++ after)]

/-- Settles O42: an evaluation of the grant by its conditions and the first ELIGIBLE entry, and the refill as the event that
owes nothing else. -/
theorem grantsTakeTheFirstEligibleEntry : Obligations.GrantsTakeTheFirstEligibleEntry := by
  unfold Obligations.GrantsTakeTheFirstEligibleEntry
  intro granted allowed
  have grantedEq (s : State) (e : QueueEntry) (rest : List QueueEntry) : granted s e rest = s.granted e rest := by
    unfold State.granted State.newClean
    cases h : (s.filters.get e.filter).circuit <;> simp only [granted, h] <;> rfl
  have nothing {s : State} (h : ¬ allowed s ∨ ∀ e ∈ s.queue, e.eligibility ≠ .eligible) : s.tryGrant = s :=
    State.tryGrant_nothing (h.imp_left fun no => Bool.eq_false_iff.2 fun yes => no ((State.grantAllowed_iff s).1 yes))
  refine ⟨fun s => nothing, fun s e before after may fresh split skipped eligible others waits => ?_, fun s => ?_⟩
  · rw [grantedEq]
    exact State.tryGrant_first ((State.grantAllowed_iff s).2 may) fresh split skipped eligible others waits
  · intro u
    refine ⟨⟨_, exec_refill s, (Reacts.refl u).needGrant.finishEvent.undisturbed⟩, fun quiet none => ?_, ?_⟩
    · exact congrArg _ (quiet.refilled.finishEvent_needGrant (nothing (s := u) none))
    intro e before after quiet evaluated may split skipped eligible others waits standby
    have ends := quiet.refilled.finishEvent_grant evaluated ((State.grantAllowed_iff u).2 may) split skipped eligible others
      ⟨waits.request, waits.elsewhere, waits.held⟩ standby
    rw [exec_refill, ends, grantedEq]
    rfl

end Sys2Proof.Machine
end

section
/-! SUPPORT. Requests about the Backwash Queue at any port (03 R62, R64): their answers, and how an event ends that changed
the queue alone; O26. -/

namespace Sys2Proof.Machine

variable {s t u : State} {f : FilterId} {p : PortId} {k : Kind} {code : Byte}

/-! ## A request with one parameter at any port (09 R173, 10 R186) -/

/-- What a request brings about: all but the bank stays, and where nothing is left to do the event ends with its answer. -/
theorem exec_request_ends (room : s.Room p) {a : Answer} (answer : (s.heard p).answer p k.code [code] = a) :
    ∃ t, exec (k.command p [code]) s = .next t ∧
      (a.state.respond p (s.statusByte p) k.code 1 a.status a.params).Undisturbed t ∧
      (a.state.Spent → (∀ c, a.state.pathOpen.get c = a.state.hasPath c) →
        t = State.respond { a.state with due := Due.none } p (s.statusByte p) k.code 1 a.status a.params) := by
  refine ⟨_, by rw [exec_command, receiveFrame_request k.code_ne_zero (Nat.le_add_left ..)], ?_⟩
  unfold State.takeRequest
  dsimp only
  rw [if_neg (Nat.not_le.2 (State.heard_room room)), answer]
  refine ⟨?_, fun spent paths => ?_⟩
  · rw [← State.respond_eq]
    exact ((Reacts.refl _).finishEvent.undisturbed).record _ _
  · rw [State.Spent.finishEvent (s := a.state.updPort _ _) spent paths, ← State.respond_eq]
    rfl

/-- A request whose answer changes nothing is answered and nothing else. -/
theorem exec_request_answered (room : s.Room p) (quiet : s.Quiet) {st : Status} {ps : List Byte}
    (answer : (s.heard p).answer p k.code [code] = { status := st, params := ps, state := s.heard p }) :
    exec (k.command p [code]) s = .next ((s.heard p).respond p (s.statusByte p) k.code 1 st ps) := by
  rw [exec_request_quiet (Nat.le_add_left ..) room (by rw [answer]; exact quiet.heard p), answer]
  rfl

theorem State.respond_notice {st kind : Byte} {n : Nat} {a : Status} {ps : List Byte} (q : PortId) (m : Notice) :
    ((s.respond p st kind n a ps).ports.get q).hasNotice m = (s.ports.get q).hasNotice m := by
  unfold State.respond
  rw [State.updPort_ports, PerPort.get_set]
  split
  · next e => rw [e]; rfl
  · rfl

/-! ## The answers (03 R62, R64, 04 R85) -/

theorem State.answer_request (running : s.plant = .running) (p : PortId) (code : Byte) :
    s.answer p (Kind.code .requestBackwash) [code] = s.takeRequestBackwash p [code] := by
  unfold State.answer State.check
  rw [kindOf_code]
  simp [running, Kind.plantOnly, Kind.count, Kind.runningOnly, State.handle]

theorem State.answer_abort (running : s.plant = .running) (p : PortId) (code : Byte) :
    s.answer p (Kind.code .abortBackwash) [code] = s.takeAbortBackwash p [code] := by
  unfold State.answer State.check
  rw [kindOf_code]
  simp [running, Kind.plantOnly, Kind.count, Kind.runningOnly, State.handle]

theorem State.answer_purge (s : State) (code : Byte) :
    s.answer .plant (Kind.code .purgeEntry) [code] = s.takePurgeEntry [code] := by
  unfold State.answer State.check
  rw [kindOf_code]
  simp [Kind.plantOnly, Kind.count, Kind.runningOnly, State.handle]

/-- The ports with authority over a filter: port P, and its circuit's (10 R192). -/
theorem State.ownsFilter_iff (s : State) (p : PortId) (f : FilterId) :
    s.ownsFilter p f = true ↔ p = .plant ∨ (s.filters.get f).circuit.map PortId.circuit = some p := by
  unfold State.ownsFilter
  cases (s.filters.get f).circuit with
  | none => simp
  | some c =>
    rw [Option.map_some, Option.some.injEq, eq_comm (b := p)]
    simp [speaksFor]

theorem State.entryOf_isSome : (s.entryOf f).isSome = true ↔ ∃ e ∈ s.queue, e.filter = f := by
  simp [State.entryOf]

theorem State.entryOf_not_isSome : ¬ (s.entryOf f).isSome = true ↔ ∀ e ∈ s.queue, e.filter ≠ f := by
  simp [State.entryOf_isSome]

theorem State.answer_abort_queued (running : s.plant = .running) (named : filterOf code = some f)
    (owned : s.ownsFilter p f = true) (queued : ∃ e ∈ s.queue, e.filter = f) :
    s.answer p (Kind.code .abortBackwash) [code] = { status := .done, params := [code], state := s.cancelEntry f } := by
  rw [State.answer_abort running]
  simp [State.takeAbortBackwash, named, State.abortBackwash, owned, State.entryOf_isSome.2 queued]

/-! ## Events that change the queue alone -/

/-- A change of the queue in which every entry is evaluated leaves nothing to do where no grant can be made. -/
theorem QueueOnly.spent (h : QueueOnly s t) (evaluated : ∀ e ∈ t.queue, e.eligibility = s.eligibilityOf e.filter)
    (noGrant : s.grantAllowed = false) (pass : t.due.pass = true → s.Dormant) : t.Spent := by
  rw [h]
  exact ⟨evaluated, noGrant, pass⟩

theorem QueueOnly.paths (h : QueueOnly s t) (quiet : s.Quiet) (c : CircuitId) : t.pathOpen.get c = t.hasPath c := by
  rw [h]
  exact quiet.paths c

theorem QueueOnly.dropEntry (s : State) (f : FilterId) : QueueOnly s (s.dropEntry f) := by
  unfold QueueOnly
  rw [State.dropEntry_frame]

theorem QueueOnly.cancelEntry (s : State) (f : FilterId) : QueueOnly s (s.cancelEntry f) :=
  (QueueOnly.dropEntry s f).trans (.postTo _ _ _)

theorem State.cancelEntry_queue (s : State) (f : FilterId) : (s.cancelEntry f).queue = removeEntry s.queue f := by
  unfold State.cancelEntry
  rw [State.postTo_frame, State.dropEntry_frame]

theorem Reacts.cancelEntry (s : State) (f : FilterId) : Reacts s (s.cancelEntry f) := ((Reacts.refl s).dropEntry f).postTo _ _

theorem State.grantAllowed_stopped (stopped : s.stopActive = true) : s.grantAllowed = false := by
  simp [State.grantAllowed, stopped]

/-- Under plant stop nothing is left to do after an entry is taken off an evaluated queue. -/
theorem State.cancelEntry_spent (evaluated : s.Evaluated) (stopped : s.stopActive = true) : (s.cancelEntry f).Spent := by
  refine (QueueOnly.cancelEntry s f).spent (fun e mem => ?_) (State.grantAllowed_stopped stopped) fun _ => .inl stopped
  rw [State.cancelEntry_queue] at mem
  exact evaluated e (List.mem_filter.1 mem).1

/-! ## PURGE_ENTRY (03 R64) -/

/-- The state as PURGE_ENTRY leaves it for a queued filter. -/
def State.purged (s : State) (f : FilterId) : State :=
  (s.cancelEntry f).updFilter f fun r => { r with rinseOwed := false }

theorem State.answer_purge_queued (named : filterOf code = some f) (queued : ∃ e ∈ s.queue, e.filter = f) :
    s.answer .plant (Kind.code .purgeEntry) [code] = { status := .done, params := [code], state := s.purged f } := by
  rw [State.answer_purge]
  simp [State.takePurgeEntry, named, State.entryOf_isSome.2 queued, State.purged]

theorem State.Undisturbed.rinseCleared (s : State) (f : FilterId) :
    s.Undisturbed (s.updFilter f fun r => { r with rinseOwed := false }) :=
  { State.Undisturbed.refl s with
    switches := fun q => by
      rw [State.updFilter_filters, Bank.get_set]
      split
      · next e => rw [e]
      · rfl }

/-- The rinse owed mark bears on no entry and on no path. -/
theorem State.Spent.rinseCleared (spent : s.Spent) (paths : ∀ c, s.pathOpen.get c = s.hasPath c) (f : FilterId) :
    (s.updFilter f fun r => { r with rinseOwed := false }).Spent ∧
      ∀ c, (s.updFilter f fun r => { r with rinseOwed := false }).pathOpen.get c =
        (s.updFilter f fun r => { r with rinseOwed := false }).hasPath c := by
  obtain ⟨evaluated, noGrant, pass⟩ := spent
  generalize change : (s.updFilter f fun r => { r with rinseOwed := false }) = t
  have record (g : FilterId) : t.filters.get g =
      if g = f then { s.filters.get f with rinseOwed := false } else s.filters.get g := by
    rw [← change, State.updFilter_filters, Bank.get_set]
  have state (g : FilterId) : (t.filters.get g).state = (s.filters.get g).state := by
    rw [record]
    split
    · next e => rw [e]
    · rfl
  have circuit (g : FilterId) : (t.filters.get g).circuit = (s.filters.get g).circuit := by
    rw [record]
    split
    · next e => rw [e]
    · rfl
  have serves (g : FilterId) (c : CircuitId) : (t.filters.get g).serves c = (s.filters.get g).serves c := by
    unfold FilterRecord.serves FilterRecord.on
    rw [state, circuit]
  have same : t = { s with filters := t.filters } := by rw [← change]; rfl
  refine ⟨⟨fun e mem => ?_, ?_, ?_⟩, fun c => ?_⟩
  · rw [State.eligibilityOf_congr (s := s) (by rw [same]) (by rw [same]) (state _) (circuit _) serves]
    rw [same] at mem
    exact evaluated e mem
  · rw [same]; exact noGrant
  · rw [same]; exact pass
  · rw [State.hasPath_congr serves, ← paths c, same]

/-- Settles O26: the entry is cancelled, and under plant stop the event ends with that. -/
theorem queuedEntriesAreCalledOff : Obligations.QueuedEntriesAreCalledOff := by
  unfold Obligations.QueuedEntriesAreCalledOff
  constructor
  · intro s p code f room named u running owns queued
    have owned : u.ownsFilter p f = true := by
      rw [State.ownsFilter_iff]
      exact owns.imp_right fun ⟨k, port, on⟩ => by rw [on, port]; rfl
    obtain ⟨t, step, undisturbed, ends⟩ := exec_request_ends room (State.answer_abort_queued running named owned queued)
    have only := QueueOnly.cancelEntry u f
    refine ⟨t, step, ((Reacts.cancelEntry u f).undisturbed.respond ..).trans undisturbed, fun quiet evaluated stopped => ?_⟩
    rw [ends (State.cancelEntry_spent evaluated stopped) (only.paths quiet)]
    refine ⟨State.cancelEntry_queue u f, only.filters, only.line, (congrArg State.requests only :),
      (congrArg State.channels only :), fun k on => ?_⟩
    rw [State.respond_notice]
    exact State.postTo_notice _ on _
  · intro s code room
    cases named : filterOf code with
    | none =>
      intro quiet
      refine exec_plant_refused (k := .purgeEntry) room quiet ?_
      rw [State.answer_purge]
      simp [State.takePurgeEntry, named]
    | some f =>
      refine ⟨fun absent quiet => ?_, fun queued => ?_⟩
      · refine exec_plant_refused (k := .purgeEntry) room quiet ?_
        rw [State.answer_purge]
        simp [State.takePurgeEntry, named, State.entryOf_not_isSome.2 absent]
      · obtain ⟨t, step, undisturbed, ends⟩ := exec_request_ends room (State.answer_purge_queued named queued)
        have only := QueueOnly.cancelEntry s f
        have purges : s.Undisturbed (s.purged f) := (Reacts.cancelEntry s f).undisturbed.trans (.rinseCleared _ f)
        refine ⟨t, step, (purges.respond ..).trans undisturbed, fun quiet evaluated stopped => ?_⟩
        obtain ⟨spent, paths⟩ := (State.cancelEntry_spent (f := f) evaluated stopped).rinseCleared (only.paths quiet) f
        rw [ends spent paths]
        refine ⟨State.cancelEntry_queue s f, ?_, only.line, (congrArg State.requests only :),
          (congrArg State.channels only :), fun k on => ?_⟩
        · show (s.purged f).filters = _
          unfold State.purged
          rw [State.updFilter_filters, only.filters]
        · rw [State.respond_notice]
          exact State.postTo_notice _ on _

end Sys2Proof.Machine
end

section
/-! SUPPORT. REQUEST_BACKWASH (03 R62, R63): the checks in their order, and the filing of a filter at the back of the queue;
O25. -/

namespace Sys2Proof.Machine

variable {s t u : State} {f : FilterId} {p : PortId} {code : Byte} {rs : Reasons} {x : QueueEntry}

/-! ## The answer (03 R62) -/

theorem State.takeRequestBackwash_named (named : filterOf code = some f) :
    s.takeRequestBackwash p [code] = s.requestBackwash p f code := by
  simp [State.takeRequestBackwash, named]

theorem State.takeRequestBackwash_unnamed (unnamed : filterOf code = none) :
    s.takeRequestBackwash p [code] = s.refuse .refusedRange := by
  simp [State.takeRequestBackwash, unnamed]

theorem State.requestBackwash_stranger (stranger : ¬ (p = .plant ∨ (s.filters.get f).circuit.map PortId.circuit = some p)) :
    s.requestBackwash p f code = s.refuse .notYours :=
  if_pos (by simpa using fun owned => stranger ((s.ownsFilter_iff p f).1 owned))

theorem State.requestBackwash_cleaning (owned : s.ownsFilter p f = true) (cleaning : (s.filters.get f).state = .cleaning) :
    s.requestBackwash p f code = { status := .already, params := [code], state := s } := by
  simp [State.requestBackwash, owned, cleaning]

theorem State.requestBackwash_barred (owned : s.ownsFilter p f = true) (free : (s.filters.get f).state ≠ .cleaning)
    (barred : (s.filters.get f).state.mayQueue = false) : s.requestBackwash p f code = s.refuse .refusedState := by
  simp [State.requestBackwash, owned, free, barred]

theorem State.requestBackwash_files (owned : s.ownsFilter p f = true) (may : (s.filters.get f).state.mayQueue = true) :
    s.requestBackwash p f code =
      { status := if ∃ e ∈ s.queue, e.filter = f then .already else .accepted, params := [code],
        state := s.fileEntry f { requested := true } } := by
  have free : (s.filters.get f).state ≠ .cleaning := fun cleaning => by rw [cleaning] at may; cases may
  simp [State.requestBackwash, owned, free, may, State.entryOf_isSome]

/-- The states whose filters may not be queued, but for CLEANING (03 R47). -/
theorem FilterState.mayQueue_of {st : FilterState} (free : st ≠ .cleaning)
    (barred : ¬ st ∈ [FilterState.unknown, .homing, .parking, .outOfUse, .fault]) : st.mayQueue = true := by
  cases st with
  | cleaning => exact absurd rfl free
  | service | joining | leaving | standby => rfl
  | unknown | homing | parking | outOfUse | fault => exact absurd (by decide) barred

theorem FilterState.not_mayQueue_of {st : FilterState}
    (barred : st ∈ [FilterState.unknown, .homing, .parking, .outOfUse, .fault]) : st.mayQueue = false := by
  simp only [List.mem_cons, List.not_mem_nil, or_false] at barred
  rcases barred with rfl | rfl | rfl | rfl | rfl <;> rfl

/-! ## What a filing leaves to do (03 R48, R51) -/

/-- Only an entry that is FLOOR_BLOCKED asks for a pass (03 R52). -/
theorem State.takeEligibility_pass {v : Eligibility} (passes : v ≠ .floorBlocked) :
    (s.takeEligibility f v).due = s.due := by
  cases v with
  | floorBlocked => exact absurd rfl passes
  | needsStop =>
    unfold State.takeEligibility
    dsimp only
    rw [State.postTo_frame]
  | eligible | inTransit => rfl

/-- A new entry without pressure is the last, and no pass follows unless it is FLOOR_BLOCKED. -/
theorem State.fileEntry_back (may : (s.filters.get f).state.mayQueue = true) (calm : rs.pressure = false)
    (absent : ∀ e ∈ s.queue, e.filter ≠ f) (passes : s.eligibilityOf f ≠ .floorBlocked) :
    (s.fileEntry f rs).queue = s.queue ++ [{ filter := f, reasons := rs, eligibility := s.eligibilityOf f }] ∧
      (s.fileEntry f rs).due.pass = s.due.pass := by
  have noEntry : s.entryOf f = none := List.find?_eq_none.2 fun e mem => by simpa using absent e mem
  refine ⟨?_, ?_⟩
  · rw [State.fileEntry_new may noEntry]
    exact if_neg (by simp [QueueEntry.urgent, calm])
  · unfold State.fileEntry
    rw [if_pos may, noEntry]
    have same := State.takeEligibility_pass (f := f)
      (s := s.setQueue (insertEntry s.queue { filter := f, reasons := rs, eligibility := s.eligibilityOf f })) passes
    exact (congrArg Due.pass same :)

/-- Reasons without pressure join those of the filter's entry in its place. -/
theorem State.fileEntry_joins (may : (s.filters.get f).state.mayQueue = true) (calm : rs.pressure = false)
    (distinct : (s.queue.map QueueEntry.filter).Nodup) (present : ∃ e ∈ s.queue, e.filter = f) :
    (s.fileEntry f rs).queue =
        s.queue.map (fun e => if e.filter = f then { e with reasons := e.reasons.union rs } else e) ∧
      (s.fileEntry f rs).due.pass = s.due.pass := by
  obtain ⟨x, mem, named⟩ := present
  have only : ∀ y ∈ s.queue, y.filter = f → y = x := fun y there same =>
    List.inj_on_of_nodup_map distinct there mem (same.trans named.symm)
  have stays : ¬ (QueueEntry.urgent { x with reasons := x.reasons.union rs } && !x.urgent) = true := by
    simp [QueueEntry.urgent, Reasons.union, calm]
  have filed : s.fileEntry f rs = (s.setQueue (replaceEntry s.queue { x with reasons := x.reasons.union rs })).needEval := by
    unfold State.fileEntry
    rw [if_pos may, show s.entryOf f = some x from find_entry mem named only]
    exact if_neg stays
  rw [filed]
  refine ⟨List.map_congr_left fun y there => ?_, rfl⟩
  by_cases same : y.filter = f
  · rw [if_pos (beq_iff_eq.2 (same.trans named.symm)), if_pos same, only y there same]
  · rw [if_neg fun hit => same ((beq_iff_eq.1 hit).trans named), if_neg same]

theorem Reasons.union_requested (a : Reasons) : a.union { requested := true } = { a with requested := true } := by
  simp [Reasons.union]

/-- The Filter Table, the travels and the Line of one state are those of another. -/
def State.SameBeyondQueue (t u : State) : Prop :=
  t.filters = u.filters ∧ t.requests = u.requests ∧ t.channels = u.channels ∧ t.line = u.line

/-- The end of an event that has only changed the queue, each entry evaluated and no grant possible. -/
theorem State.filed_ends {st kind : Byte} {n : Nat} {a : Status} {ps : List Byte} {filed : State} (only : QueueOnly u filed)
    (quiet : u.Quiet) (noGrant : u.grantAllowed = false)
    (ends : filed.Spent → (∀ c, filed.pathOpen.get c = filed.hasPath c) →
      t = State.respond { filed with due := Due.none } p st kind n a ps)
    (evaluated : ∀ e ∈ filed.queue, e.eligibility = u.eligibilityOf e.filter) (noPass : filed.due.pass = u.due.pass) :
    t.queue = filed.queue ∧ t.SameBeyondQueue u := by
  have spent := only.spent evaluated noGrant fun due => by rw [noPass, quiet.due] at due; cases due
  rw [ends spent (only.paths quiet)]
  exact ⟨rfl, only.filters, (congrArg State.requests only :), (congrArg State.channels only :), only.line⟩

/-- The event of a request that files its filter. -/
theorem exec_request_files (room : s.Room p) (may : ((s.heard p).filters.get f).state.mayQueue = true)
    (answer : (s.heard p).answer p (Kind.code .requestBackwash) [code] = (s.heard p).requestBackwash p f code)
    (owned : (s.heard p).ownsFilter p f = true) :
    let u := s.heard p
    ∃ t, exec (.requestBackwash p [code]) s = .next t ∧
      (u.respond p (s.statusByte p) 0x31#8 1 (if ∃ e ∈ u.queue, e.filter = f then .already else .accepted)
        [code]).Undisturbed t ∧
      (u.Quiet → u.Evaluated → u.QueueLaw → u.grantAllowed = false →
        ((∀ e ∈ u.queue, e.filter ≠ f) → u.eligibilityOf f ≠ .floorBlocked →
          t.queue = u.queue ++ [{ filter := f, reasons := { requested := true }, eligibility := u.eligibilityOf f }] ∧
          t.SameBeyondQueue u) ∧
        ((∃ e ∈ u.queue, e.filter = f) →
          t.queue = u.queue.map (fun e =>
            if e.filter = f then { e with reasons := { e.reasons with requested := true } } else e) ∧ t.SameBeyondQueue u)) := by
  intro u
  rw [State.requestBackwash_files owned may] at answer
  obtain ⟨t, step, undisturbed, ends⟩ := exec_request_ends room answer
  have filed := ((Reacts.refl u).fileEntry f { requested := true }).undisturbed
  refine ⟨t, step, (filed.respond ..).trans undisturbed, fun quiet evaluated law noGrant => ?_⟩
  have ended := State.filed_ends (QueueOnly.fileEntry u f _) quiet noGrant ends
  refine ⟨fun absent passes => ?_, fun present => ?_⟩
  · obtain ⟨queue, noPass⟩ := State.fileEntry_back (rs := { requested := true }) may rfl absent passes
    rw [← queue]
    refine ended (fun e mem => ?_) noPass
    rw [queue, List.mem_append, List.mem_singleton] at mem
    rcases mem with mem | rfl
    · exact evaluated e mem
    · rfl
  · obtain ⟨queue, noPass⟩ := State.fileEntry_joins (rs := { requested := true }) may rfl law.distinct present
    simp only [Reasons.union_requested] at queue
    rw [← queue]
    refine ended (fun e mem => ?_) noPass
    rw [queue] at mem
    obtain ⟨y, there, rfl⟩ := List.mem_map.1 mem
    split <;> exact evaluated y there

/-- Settles O25: the checks in their order, and a filing after which nothing is left to do. -/
theorem backwashRequestsAreFiled : Obligations.BackwashRequestsAreFiled := by
  unfold Obligations.BackwashRequestsAreFiled
  intro s p code room running u st c
  have answer : u.answer p (Kind.code .requestBackwash) [code] = u.takeRequestBackwash p [code] :=
    State.answer_request running p code
  cases named : filterOf code with
  | none =>
    rw [State.takeRequestBackwash_unnamed named] at answer
    exact fun quiet => exec_request_answered room quiet answer
  | some f =>
    rw [State.takeRequestBackwash_named named] at answer
    dsimp only
    by_cases owner : p = .plant ∨ (u.filters.get f).circuit.map PortId.circuit = some p
    case neg =>
      rw [if_pos owner]
      rw [State.requestBackwash_stranger owner] at answer
      exact fun quiet => exec_request_answered room quiet answer
    rw [if_neg (not_not.2 owner)]
    have owns := (u.ownsFilter_iff p f).2 owner
    by_cases cleaning : (u.filters.get f).state = .cleaning
    case pos =>
      rw [if_pos cleaning]
      rw [State.requestBackwash_cleaning owns cleaning] at answer
      exact fun quiet => exec_request_answered room quiet answer
    rw [if_neg cleaning]
    by_cases barred : (u.filters.get f).state ∈ [FilterState.unknown, .homing, .parking, .outOfUse, .fault]
    case pos =>
      rw [if_pos barred]
      rw [State.requestBackwash_barred owns cleaning (FilterState.not_mayQueue_of barred)] at answer
      exact fun quiet => exec_request_answered room quiet answer
    rw [if_neg barred]
    exact exec_request_files room (FilterState.mayQueue_of cleaning barred) answer owns

end Sys2Proof.Machine
end

end

section
/-! The Backwash Sequence (04): its proofs too are elaborated one after another, for the memory of a check of the text. -/
set_option Elab.async false

section
/-! SUPPORT. The Line's timers end a phase (04 R73, R76, R77, R81), and the travel that the Line then asks for waits; O44. -/

namespace Sys2Proof.Machine

variable {s u : State} {r x : LineRecord}

/-! ## What each expiry does to the Line -/

/-- In a run phase the phase timer ends the phase by time (04 R73). -/
theorem State.linePhaseExpiry_ends {m : Nat} (clean : s.line.clean = some r) (timer : r.phaseTimer = .running m)
    (run : r.phase.isRun = true) : s.linePhaseExpiry = s.endRun r true := by
  unfold State.linePhaseExpiry
  simp only [clean, timer, run, if_true]

theorem State.endRun_time_backwash (phase : r.phase = .backwashRun) :
    s.endRun r true = s.toRinse { r with outcome := r.outcome.orElse .short } := by
  unfold State.endRun
  rw [if_pos phase, if_pos rfl]

theorem State.endRun_time_rinse (phase : r.phase = .rinseRun) :
    s.endRun r true = (s.rinsed r.filter).beginReturning { r with outcome := r.outcome.orElse .short } := by
  unfold State.endRun
  rw [if_neg (by rw [phase]; decide), if_pos rfl]

/-- No flow before the bed is wetted: the filter is to be filed again (04 R76). -/
theorem State.lineFlowExpiry_dry (clean : s.line.clean = some r) (timer : r.flowTimer = .running)
    (phase : r.phase = .backwashRun) (dry : r.wetted = false) :
    s.lineFlowExpiry = s.lineUnavailable.beginReturning { r with outcome := .noFlow, requeue := true } := by
  unfold State.lineFlowExpiry
  simp [clean, timer, phase, dry, Phase.isRun]

/-- No flow once the bed is wetted, or in the rinse: the filter is to leave UNRINSED (04 R77). -/
theorem State.lineFlowExpiry_wet (clean : s.line.clean = some r) (timer : r.flowTimer = .running)
    (run : r.phase.isRun = true) (wet : r.phase = .rinseRun ∨ r.wetted = true) :
    s.lineFlowExpiry = s.lineUnavailable.beginReturning { r with outcome := .noFlow, exitUnrinsed := true } := by
  have notDry : ¬ (r.phase = .backwashRun && !r.wetted) = true := by
    rcases wet with rinse | wet
    · simp [rinse]
    · simp [wet]
  unfold State.lineFlowExpiry
  simp only [clean, timer, run, if_neg notDry, decide_true, Bool.and_self, if_true]

section

variable (clean : s.line.clean = some r) (suspended : r.phase = .suspended) (timer : r.suspendTimer.isSome = true)

include clean suspended timer

/-- A tank that stays low ends a clean whose bed is wetted UNRINSED (04 R81). -/
theorem State.lineSuspendExpiry_wet (wet : r.wetted = true) :
    s.lineSuspendExpiry = (s.post .plant .tankLow).beginReturning { r with exitUnrinsed := true } := by
  unfold State.lineSuspendExpiry
  simp [clean, suspended, timer, wet]

/-- A tank that stays low ends a clean whose bed is dry ABORTED, to be filed again unless it was called off (04 R81). -/
theorem State.lineSuspendExpiry_dry (dry : r.wetted = false) :
    s.lineSuspendExpiry = (s.post .plant .tankLow).beginReturning
      { r with outcome := .aborted, requeue := r.requeue || !r.abortPending } := by
  unfold State.lineSuspendExpiry
  simp [clean, suspended, timer, dry]

end

/-! ## Events after which the Line's travel waits (04 R74, R75) -/

theorem State.Quiet.lineTravels (quiet : s.Quiet) (r : LineRecord) (target : Stop) : (s.lineTravels r target).Quiet :=
  quiet.of_eq rfl rfl rfl

/-- An event after which the Line's filter goes to the rinse. -/
theorem exec_lineRinses {c : Instr} {X : State} (step : exec c s = .next X.finishEvent) (rinses : X = u.toRinse x)
    (quiet : u.Quiet) (waits : u.MustWait x.filter .rinse) :
    exec c s = .next (u.lineTravels (x.resting .toRinse) .rinse) :=
  exec_quiet step (rinses.trans (State.toRinse_waits waits)) (quiet.lineTravels _ _)

/-- An event after which the Line's filter returns. -/
theorem exec_lineReturns {c : Instr} {X : State} {target : Stop} (step : exec c s = .next X.finishEvent)
    (returns : X = u.beginReturning x) (quiet : u.Quiet) (goes : x.returnStop (u.filters.get x.filter) = target)
    (waits : u.MustWait x.filter target) :
    exec c s = .next (u.lineTravels { x.resting .returning with returnTarget := target } target) :=
  exec_quiet step (returns.trans (State.beginReturning_waits goes waits)) (quiet.lineTravels _ _)

/-- A filter that is to leave UNRINSED returns to stop 0 (04 R75). -/
theorem LineRecord.returnStop_unrinsed (unrinsed : r.exitUnrinsed = true) (y : FilterRecord) : r.returnStop y = .closed := by
  unfold LineRecord.returnStop
  simp [unrinsed]

theorem State.Quiet.rinsed (quiet : s.Quiet) (f : FilterId) : (s.rinsed f).Quiet :=
  quiet.updFilter f (fun _ => rfl) fun _ => rfl

/-- The rinse owed mark has no part in the return target (04 R75). -/
theorem LineRecord.returnStop_rinsed (s : State) (r : LineRecord) :
    r.returnStop ((s.rinsed r.filter).filters.get r.filter) = r.returnStop (s.filters.get r.filter) := by
  rw [show (s.rinsed r.filter).filters.get r.filter = { s.filters.get r.filter with rinseOwed := false } from
    Bank.get_set_same ..]
  rfl

/-- Settles O44: each expiry by the travel it asks for, which waits. -/
theorem lineTimersEndThePhase : Obligations.LineTimersEndThePhase := by
  unfold Obligations.LineTimersEndThePhase
  intro s r quiet clean target short travels
  refine ⟨fun m timer => ⟨fun phase waits => ?_, fun phase waits => ?_⟩, fun timer inRun => ?_, fun suspended timer => ?_⟩
  · exact exec_lineRinses (X := s.linePhaseExpiry) rfl
      ((State.linePhaseExpiry_ends clean timer (by rw [phase]; rfl)).trans (State.endRun_time_backwash phase)) quiet waits
  · exact exec_lineReturns (X := s.linePhaseExpiry) rfl
      ((State.linePhaseExpiry_ends clean timer (by rw [phase]; rfl)).trans (State.endRun_time_rinse phase))
      (quiet.rinsed _) (LineRecord.returnStop_rinsed s r) ⟨waits.request, waits.elsewhere, waits.held⟩
  · intro u
    have run : r.phase.isRun = true := (Phase.isRun_iff _).2 inRun
    have quiet' : u.Quiet := quiet.of_eq rfl rfl rfl
    refine ⟨fun phase dry waits => ?_, fun wet waits => ?_⟩
    · exact exec_lineReturns (X := s.lineFlowExpiry) rfl (State.lineFlowExpiry_dry clean timer phase dry) quiet' rfl
        ⟨waits.request, waits.elsewhere, waits.held⟩
    · exact exec_lineReturns (X := s.lineFlowExpiry) rfl (State.lineFlowExpiry_wet clean timer run wet) quiet'
        (LineRecord.returnStop_unrinsed rfl _) ⟨waits.request, waits.elsewhere, waits.held⟩
  · intro u
    have quiet' : u.Quiet := quiet.of_eq rfl rfl rfl
    refine ⟨fun dry waits => ?_, fun wet waits => ?_⟩
    · exact exec_lineReturns (X := s.lineSuspendExpiry) rfl (State.lineSuspendExpiry_dry clean suspended timer dry) quiet' rfl
        ⟨waits.request, waits.elsewhere, waits.held⟩
    · exact exec_lineReturns (X := s.lineSuspendExpiry) rfl (State.lineSuspendExpiry_wet clean suspended timer wet) quiet'
        (LineRecord.returnStop_unrinsed rfl _) ⟨waits.request, waits.elsewhere, waits.held⟩

end Sys2Proof.Machine
end

section
/-! SUPPORT. ARRIVED for the Line at the stop of a run phase (04 R70, R74), and in a hold (04 R82); O53. -/

namespace Sys2Proof.Machine

variable {s : State} {f : FilterId} {r : LineRecord}

/-! ## The end of the travel (05 R96) -/

/-- A selector that takes its seat without having waited in the travel queue: its travel has ended, and nothing else. -/
theorem State.seatTaken_ended (notQueued : f ∉ s.travelQueue) (stop : Stop) :
    s.seatTaken f stop = s.travelEnded f ((s.channels.get f).arrivedAt stop) := by
  have queue : s.travelQueue.filter (fun g => g != f) = s.travelQueue :=
    List.filter_eq_self.2 fun g mem => by simpa using fun same : g = f => notQueued (same ▸ mem)
  unfold State.seatTaken State.travelCleared
  rw [State.withChannel_updChannel, Channel.seatedOver_ended]
  exact congrArg (fun l => { s.travelEnded f ((s.channels.get f).arrivedAt stop) with travelQueue := l }) queue

/-- The Line takes the arrival of its selector, and no slot can be handed out. -/
theorem State.detentClose_lineArrives {q : TravelRequest} (clean : s.line.clean = some r)
    (request : s.requests.get r.filter = some q) (line : q.requester = .backwashLine)
    (settling : (s.channels.get r.filter).state = .settling) (stop : (s.channels.get r.filter).settleStop = some q.target)
    (notQueued : r.filter ∉ s.travelQueue) (held : s.travelQueue = [] ∨ s.pauseCondition = true) :
    s.detentClose r.filter =
      (s.travelEnded r.filter ((s.channels.get r.filter).arrivedAt q.target)).lineArrived r := by
  rw [State.detentClose_arrives request settling stop, line, State.seatTaken_ended notQueued]
  generalize ended : s.travelEnded r.filter _ = t
  have taken : t.deliver .backwashLine r.filter .arrived = t.lineArrived r := by
    show t.lineOutcome r.filter .arrived = _
    unfold State.lineOutcome
    rw [show t.line.clean = some r by rw [← ended]; exact clean]
    exact if_pos rfl
  have noHandOut : t.NoHandOut := by
    rw [← ended]
    exact .inr held
  rw [← taken]
  exact State.NoHandOut.handOut ((SameDrive.lineOutcome t r.filter .arrived).noHandOut noHandOut)

/-! ## The run phase begins, or waits for water (04 R70, R71, R74) -/

theorem State.arriveRun_begins (water : s.waste.lowLow = false) (p : Phase) :
    s.arriveRun r p = { s with line := { s.line with pump := true, clean := some { r with
      phase := p, heldPhase := none, counted := 0, phaseTimer := .running (s.settings.phaseMinutes p), flowTimer := .running,
      suspendTimer := none } } } := by
  unfold State.arriveRun
  rw [water]
  rfl

theorem State.arriveRun_waits (low : s.waste.lowLow = true) (p : Phase) :
    s.arriveRun r p = { s with line := { s.line with clean := some { r with
      phase := .suspended, heldPhase := some p, phaseTimer := .stopped, flowTimer := .stopped,
      suspendTimer := some s.settings.suspendLimit } } } := by
  unfold State.arriveRun
  rw [low]
  rfl

theorem State.lineArrived_held (held : r.phase = .stopHeld) (notBack : r.heldPhase ≠ some .returning) :
    s.lineArrived r = s := by
  unfold State.lineArrived
  rw [held]
  exact if_neg notBack

/-- Settles O53: the travel has ended, and the Line takes the arrival by its phase. -/
theorem arrivalsBeginTheRunPhases : Obligations.ArrivalsBeginTheRunPhases := by
  unfold Obligations.ArrivalsBeginTheRunPhases
  intro s r q quiet clean f ch request line settling stop notQueued held becomes run
  have arrives := State.detentClose_lineArrives clean request line settling stop notQueued held
  have ends {l : Line} (taken : (s.travelEnded f (ch.arrivedAt q.target)).lineArrived r =
      { s.travelEnded f (ch.arrivedAt q.target) with line := l }) : becomes l :=
    exec_quiet (X := s.detentClose f) rfl (arrives.trans taken) (quiet.of_eq rfl rfl rfl)
  have arrived (p : Phase) (phase : (s.travelEnded f (ch.arrivedAt q.target)).lineArrived r =
      (s.travelEnded f (ch.arrivedAt q.target)).arriveRun r p) : run p (s.settings.phaseMinutes p) := by
    refine ⟨fun water => ends (phase.trans ?_), fun low => ends (phase.trans ?_)⟩
    · exact State.arriveRun_begins (s := s.travelEnded f _) water p
    · exact State.arriveRun_waits (s := s.travelEnded f _) low p
  refine ⟨fun phase => arrived .backwashRun ?_, fun phase => arrived .rinseRun ?_, fun phase notBack => ?_⟩
  · unfold State.lineArrived
    rw [phase]
  · unfold State.lineArrived
    rw [phase]
  · exact ends (State.lineArrived_held phase notBack)

end Sys2Proof.Machine
end

section
/-! SUPPORT. CLEAR_LINE (04 R90): a request without parameters, after which at most an evaluation of the grant follows; O28. -/

namespace Sys2Proof.Machine

variable {s u : State} {p : PortId}

/-- A request that is taken: its response is queued, the event ends, and the frame is recorded (09 R173). -/
theorem exec_request_taken {k : Kind} {ps : List Byte} (fits : ps.length ≤ Config.maxParams) (room : s.Room p) {a : Answer}
    (answer : (s.heard p).answer p k.code ps = a) :
    exec (k.command p ps) s = .next ((a.state.updPort p fun q =>
      q.enqueue { kind := k.code, status := a.status, params := a.params }).finishEvent.record p
        (goodTrace (s.statusByte p) k.code ps.length)) := by
  rw [exec_command, receiveFrame_request k.code_ne_zero fits]
  unfold State.takeRequest
  dsimp only
  rw [if_neg (Nat.not_le.2 (State.heard_room room)), answer]

/-! ## The answers to CLEAR_LINE (04 R90, 10 R186) -/

theorem State.answer_clearLine (s : State) : s.answer .plant (Kind.code .clearLine) [] = s.takeClearLine := by
  unfold State.answer State.check
  rw [kindOf_code]
  simp [Kind.plantOnly, Kind.count, Kind.runningOnly, State.handle]

theorem State.answer_clearLine_circuit (s : State) (c : CircuitId) :
    s.answer (.circuit c) (Kind.code .clearLine) [] = s.refuse .notYours := by
  unfold State.answer State.check
  rw [kindOf_code]
  simp [Kind.plantOnly]

theorem State.takeClearLine_available (available : s.line.available = true) :
    s.takeClearLine = { status := .already, params := [], state := s } :=
  if_pos available

/-- The state with the Line AVAILABLE. -/
def State.lineFreed (s : State) : State :=
  { s with line := { s.line with available := true } }

theorem State.takeClearLine_unavailable (unavailable : s.line.available = false) :
    s.takeClearLine = { status := .done, params := [], state := s.lineFreed.needGrant } :=
  if_neg (by simp [unavailable])

/-! ## The evaluation of the grant that follows (03 R60) -/

theorem State.tryGrant_idle (nothing : s.grantAllowed = false ∨ s.firstEligible = none) : s.tryGrant = s := by
  rcases nothing with refused | noEntry
  · exact State.tryGrant_none refused
  · unfold State.tryGrant
    rw [noEntry, ite_self]

/-- A request that owes an evaluation of the grant: all but the bank is undisturbed, and where no grant can be made nothing
but the answer follows. -/
theorem exec_request_grants {k : Kind} {ps qs : List Byte} {st : Status} (fits : ps.length ≤ Config.maxParams) (room : s.Room p)
    (answer : (s.heard p).answer p k.code ps = { status := st, params := qs, state := u.needGrant }) :
    ∃ t, exec (k.command p ps) s = .next t ∧
      (u.respond p (s.statusByte p) k.code ps.length st qs).Undisturbed t ∧
      (u.Quiet → u.grantAllowed = false ∨ u.firstEligible = none →
        t = u.respond p (s.statusByte p) k.code ps.length st qs) := by
  refine ⟨_, exec_request_taken fits room answer, ?_⟩
  dsimp only
  rw [← State.respond_eq]
  generalize (fun q : Port => q.enqueue { kind := k.code, status := st, params := qs }) = respond
  rw [show u.needGrant.updPort p respond = (u.updPort p respond).needGrant from rfl]
  refine ⟨((Reacts.refl _).needGrant.finishEvent.undisturbed).record _ _, fun quiet nothing => ?_⟩
  rw [State.Quiet.finishEvent_needGrant (quiet.updPort p respond) (State.tryGrant_idle nothing)]

/-- Settles O28: the answer by the Line's availability and the port, and the grant event that a freed Line is. -/
theorem clearLineMakesTheLineAvailable : Obligations.ClearLineMakesTheLineAvailable := by
  unfold Obligations.ClearLineMakesTheLineAvailable
  refine ⟨fun s room => ⟨fun unavailable => ?_, fun available quiet => ?_⟩, fun s c room quiet => ?_⟩
  · have answer : (s.heard .plant).answer .plant (Kind.code .clearLine) [] =
        { status := .done, params := [], state := s.lineFreed.needGrant } :=
      (State.answer_clearLine s).trans (State.takeClearLine_unavailable unavailable)
    obtain ⟨t, step, undisturbed, ends⟩ := exec_request_grants (Nat.zero_le _) room answer
    exact ⟨t, step, undisturbed, fun quiet nothing => ends (quiet.of_eq rfl rfl rfl) nothing⟩
  · have answer : (s.heard .plant).answer .plant (Kind.code .clearLine) [] =
        { status := .already, params := [], state := s } :=
      (State.answer_clearLine s).trans (State.takeClearLine_available available)
    refine (exec_request_quiet (k := .clearLine) (Nat.zero_le _) room (by rw [answer]; exact quiet)).trans ?_
    rw [answer]
    rfl
  · have answer := State.answer_clearLine_circuit (s.heard (.circuit c)) c
    refine (exec_request_quiet (k := .clearLine) (Nat.zero_le _) room
      (by rw [answer]; exact State.Quiet.heard quiet (.circuit c))).trans ?_
    rw [answer]
    rfl

end Sys2Proof.Machine
end

section
/-! SUPPORT. ABORT_BACKWASH (04 R84 to R86): the order of its refusals, what it does to a clean by the phase, and the turn of a
selector on its way to the backwash (05 R107, R108); O27. -/

namespace Sys2Proof.Machine

variable {s u : State} {f : FilterId} {p : PortId} {code : Byte} {r : LineRecord} {ph : Phase} {target : Stop}

/-! ## The refusals (04 R84) -/

/-- The ports with authority over a filter, the circuit named (10 R187). -/
theorem State.ownsFilter_iff_circuit (s : State) (p : PortId) (f : FilterId) :
    s.ownsFilter p f = true ↔ p = .plant ∨ ∃ k, p = .circuit k ∧ (s.filters.get f).circuit = some k := by
  rw [State.ownsFilter_iff, Option.map_eq_some_iff]
  exact or_congr_right (exists_congr fun k => and_comm.trans (and_congr_left' eq_comm))

theorem State.takeAbortBackwash_unnamed (unnamed : filterOf code = none) :
    s.takeAbortBackwash p [code] = s.refuse .refusedRange := by
  simp [State.takeAbortBackwash, unnamed]

theorem State.takeAbortBackwash_named (named : filterOf code = some f) :
    s.takeAbortBackwash p [code] = s.abortBackwash p f code := by
  simp [State.takeAbortBackwash, named]

theorem State.abortBackwash_stranger (stranger : ¬ s.ownsFilter p f = true) :
    s.abortBackwash p f code = s.refuse .notYours :=
  if_pos (by simpa using stranger)

theorem State.cleanOf_none (other : ∀ r, s.line.clean = some r → r.filter ≠ f) : s.cleanOf f = none := by
  unfold State.cleanOf
  split
  · next r clean => exact if_neg (other r clean)
  · rfl

theorem State.cleanOf_clean (clean : s.line.clean = some r) : s.cleanOf r.filter = some r := by
  unfold State.cleanOf
  rw [clean]
  exact if_pos rfl

/-- A filter that is neither queued nor on the Line (04 R84). -/
theorem State.abortBackwash_absent (owned : s.ownsFilter p f = true) (absent : ∀ e ∈ s.queue, e.filter ≠ f)
    (other : ∀ r, s.line.clean = some r → r.filter ≠ f) : s.abortBackwash p f code = s.refuse .refusedState := by
  unfold State.abortBackwash
  rw [if_neg (by simp [owned]), if_neg (State.entryOf_not_isSome.2 absent), State.cleanOf_none other]

/-- For the filter on the Line the answer is the Line's (04 R86). -/
theorem State.abortBackwash_cleans (owned : s.ownsFilter p r.filter = true) (absent : ∀ e ∈ s.queue, e.filter ≠ r.filter)
    (clean : s.line.clean = some r) : s.abortBackwash p r.filter code =
      { status := (s.abortClean r).1, params := [code], state := (s.abortClean r).2 } := by
  unfold State.abortBackwash
  rw [if_neg (by simp [owned]), if_neg (State.entryOf_not_isSome.2 absent), State.cleanOf_clean clean]

/-! ## The phase by which a clean is called off (04 R86) -/

theorem LineRecord.abortPhase_held (held : r.phase = .suspended ∨ r.phase = .stopHeld) : r.abortPhase = r.heldPhase := by
  unfold LineRecord.abortPhase
  rw [if_pos (by simpa using held)]

theorem LineRecord.abortPhase_present (suspended : r.phase ≠ .suspended) (held : r.phase ≠ .stopHeld) :
    r.abortPhase = some r.phase := by
  unfold LineRecord.abortPhase
  rw [if_neg (by simp [suspended, held])]

/-- Past the backwash an abort comes too late. -/
theorem State.abortClean_late (phase : r.abortPhase = some ph) (late : ph ∈ [Phase.toRinse, .rinseRun, .returning]) :
    s.abortClean r = (.tooLate, s) := by
  unfold State.abortClean
  simp only [List.mem_cons, List.not_mem_nil, or_false] at late
  rcases late with rfl | rfl | rfl <;> rw [phase]

theorem State.abortClean_toBackwash (phase : r.abortPhase = some .toBackwash) :
    s.abortClean r =
      (.done, if r.phase = .stopHeld then s.setClean (some r.calledOff) else s.beginReturning r.calledOff) := by
  unfold State.abortClean
  simp [phase]

theorem State.abortClean_wetted (phase : r.abortPhase = some .backwashRun) (wet : r.wetted = true) :
    s.abortClean r =
      (.accepted, if r.phase = .stopHeld then s.setClean (some r.calledOff) else s.toRinse r.calledOff) := by
  unfold State.abortClean
  simp [phase, wet]

theorem State.abortClean_dry (phase : r.abortPhase = some .backwashRun) (dry : r.wetted = false) :
    s.abortClean r =
      (.done, if r.phase = .stopHeld then s.setClean (some r.calledOff) else s.beginReturning r.calledOff) := by
  unfold State.abortClean
  simp [phase, dry]

/-- In a hold the record is marked and nothing else is done. -/
theorem State.abortClean_held_backwash (phase : r.phase = .stopHeld) (held : r.heldPhase = some .backwashRun) :
    s.abortClean r = (if r.wetted then .accepted else .done, s.setClean (some r.calledOff)) := by
  have run := (LineRecord.abortPhase_held (.inr phase)).trans held
  cases wet : r.wetted with
  | true => rw [State.abortClean_wetted run wet, if_pos phase, if_pos rfl]
  | false => rw [State.abortClean_dry run wet, if_pos phase, if_neg (by decide)]

theorem State.abortClean_held_toBackwash (phase : r.phase = .stopHeld) (held : r.heldPhase = some .toBackwash) :
    s.abortClean r = (.done, s.setClean (some r.calledOff)) := by
  rw [State.abortClean_toBackwash ((LineRecord.abortPhase_held (.inr phase)).trans held), if_pos phase]

/-! ## The turn of a selector on its way to the backwash (04 R75, 05 R107, R108) -/

/-- The return target is stop 0 or a circuit's (04 R75). -/
theorem LineRecord.returnStop_ne_backwash (r : LineRecord) (y : FilterRecord) : r.returnStop y ≠ .backwash := by
  unfold LineRecord.returnStop
  split
  · decide
  · split <;> simp

/-- The state of a Line whose filter's request has turned from the backwash to the return target. -/
def State.lineTurned (s : State) (r : LineRecord) (q : TravelRequest) (target : Stop) : State :=
  ({ s with line := { s.line with pump := false, clean := some { r.resting .returning with returnTarget := target } } } :
    State).setRequest r.filter (some { target := target, requester := .backwashLine, active := q.active })

/-- A new target for a selector that has a request takes the place of the old one (05 R107). -/
theorem State.fileTravel_turns {q : TravelRequest} (request : s.requests.get f = some q) (turns : target ≠ q.target)
    (who : Requester) : s.fileTravel f target who =
      (s.setRequest f (some { q with target := target, requester := who })).updChannel f fun ch =>
        ch.retargeted s.settings.seatCreep target := by
  unfold State.fileTravel
  rw [request]
  dsimp only
  unfold State.retarget
  exact if_neg turns

theorem State.beginReturning_turns {q : TravelRequest} (goes : r.returnStop (s.filters.get r.filter) = target)
    (request : s.requests.get r.filter = some q) (bound : q.target = .backwash) :
    s.beginReturning r = (s.lineTurned r q target).updChannel r.filter fun ch =>
      ch.retargeted s.settings.seatCreep target := by
  have turns : target ≠ q.target := by
    rw [bound, ← goes]
    exact r.returnStop_ne_backwash _
  unfold State.beginReturning
  rw [State.returnTargetOf_eq, goes]
  exact State.fileTravel_turns
    (s := (s.setPump false).setClean (some { r.stopTimers with phase := .returning, returnTarget := target })) request turns _

/-- A retarget leaves a channel that is not turning as it is (05 R107). -/
theorem Channel.retargeted_still {ch : Channel} (still : ch.state ≠ .moving) (n : Nat) (target : Stop) :
    ch.retargeted n target = ch := by
  unfold Channel.retargeted
  split
  · next moving _ _ => exact absurd moving still
  · rfl

theorem Channel.turning_of_dir {ch : Channel} {d : Dir} (dir : ch.dir = some d) : ch.turning = d := by
  unfold Channel.turning
  rw [dir]
  rfl

/-- A MOVING channel whose way to the new target is shorter than its braking estimate takes the overrun mark (05 R108). -/
theorem Channel.retargeted_moving {ch : Channel} {n : Nat} (moving : ch.state = .moving) (homing : ch.homing = none)
    (position : ch.position = some n) (seatCreep : Nat) (target : Stop) :
    ch.retargeted seatCreep target =
      { ch with overrun := ch.remaining n target < ch.profile.brakingSteps seatCreep ch.speed } := by
  unfold Channel.retargeted Channel.remaining
  simp only [moving, homing, position]

section

variable {q : TravelRequest} (goes : r.returnStop (s.filters.get r.filter) = target)
  (request : s.requests.get r.filter = some q) (bound : q.target = .backwash)

include goes request bound

theorem State.beginReturning_turns_still (still : (s.channels.get r.filter).state ≠ .moving) :
    s.beginReturning r = s.lineTurned r q target := by
  rw [State.beginReturning_turns goes request bound]
  exact State.updChannel_self (Channel.retargeted_still still _ _)

theorem State.beginReturning_turns_moving {n ahead : Nat} (moving : (s.channels.get r.filter).state = .moving)
    (homing : (s.channels.get r.filter).homing = none) (position : (s.channels.get r.filter).position = some n)
    (way : (s.channels.get r.filter).remaining n target = ahead) :
    s.beginReturning r = (s.lineTurned r q target).updChannel r.filter fun ch =>
      { ch with overrun := ahead < ch.profile.brakingSteps s.settings.seatCreep ch.speed } := by
  have turned := Channel.retargeted_moving moving homing position s.settings.seatCreep target
  rw [way] at turned
  rw [State.beginReturning_turns goes request bound]
  exact State.updChannel_congr (s := s.lineTurned r q target)
    (k := fun ch => { ch with overrun := ahead < ch.profile.brakingSteps s.settings.seatCreep ch.speed }) turned

end

/-! ## The event -/

/-- ABORT_BACKWASH for the filter on the Line answers what the Line makes of it. -/
theorem exec_abort_line {status : Status} {v : State} (room : s.Room p) (named : filterOf code = some r.filter)
    (running : (s.heard p).plant = .running) (owned : (s.heard p).ownsFilter p r.filter = true)
    (absent : ∀ e ∈ (s.heard p).queue, e.filter ≠ r.filter) (clean : (s.heard p).line.clean = some r)
    (aborts : (s.heard p).abortClean r = (status, v)) (quiet : v.Quiet) :
    exec (.abortBackwash p [code]) s = .next (v.respond p (s.statusByte p) 0x32#8 1 status [code]) := by
  have answer : (s.heard p).answer p (Kind.code .abortBackwash) [code] = { status := status, params := [code], state := v } := by
    rw [State.answer_abort running, State.takeAbortBackwash_named named, State.abortBackwash_cleans owned absent clean, aborts]
  refine (exec_request_quiet (k := .abortBackwash) (Nat.le_add_left ..) room (by rw [answer]; exact quiet)).trans ?_
  rw [answer]
  rfl

/-- The refusals of ABORT_BACKWASH in their order (04 R84). -/
theorem exec_abort_refused (room : s.Room p) (quiet : s.Quiet) (running : (s.heard p).plant = .running) :
    let u := s.heard p
    let refused := fun status => exec (.abortBackwash p [code]) s =
      .next (u.respond p (s.statusByte p) 0x32#8 1 status [])
    (filterOf code = none → refused .refusedRange) ∧
    ∀ f, filterOf code = some f →
      (¬ u.ownsFilter p f = true → refused .notYours) ∧
      (u.ownsFilter p f = true → (∀ e ∈ u.queue, e.filter ≠ f) → (∀ r, u.line.clean = some r → r.filter ≠ f) →
        refused .refusedState) := by
  intro u refused
  have refuse {status : Status} (taken : u.takeAbortBackwash p [code] = u.refuse status) : refused status :=
    exec_request_answered (k := .abortBackwash) room quiet ((State.answer_abort running p code).trans taken)
  refine ⟨fun unnamed => refuse (State.takeAbortBackwash_unnamed unnamed), fun f named => ⟨fun stranger => ?_,
    fun owned absent other => ?_⟩⟩
  · exact refuse ((State.takeAbortBackwash_named named).trans (State.abortBackwash_stranger stranger))
  · exact refuse ((State.takeAbortBackwash_named named).trans (State.abortBackwash_absent owned absent other))

/-- Settles O27: the refusals in their order, and for the filter on the Line each row of R86. -/
theorem abortActsByTheLinesPhase : Obligations.AbortActsByTheLinesPhase := by
  unfold Obligations.AbortActsByTheLinesPhase
  constructor
  · intro s p code room quiet running u refused
    obtain ⟨unnamed, ofFilter⟩ := exec_abort_refused (code := code) room quiet running
    cases named : filterOf code with
    | none => exact unnamed named
    | some f =>
      dsimp only
      have owned := u.ownsFilter_iff_circuit p f
      obtain ⟨stranger, unknown⟩ := ofFilter f named
      exact ⟨fun no => stranger (mt owned.1 no), fun yes => unknown (owned.2 yes)⟩
  · intro s p code f r room quiet named u answer marked gone target line running owns absent clean mine
    subst mine
    have quiet' : u.Quiet := quiet.heard p
    have owned : u.ownsFilter p r.filter = true := (u.ownsFilter_iff_circuit p r.filter).2 owns
    have acts {status : Status} {v : State} (aborts : u.abortClean r = (status, v)) (q : v.Quiet) : answer v status :=
      exec_abort_line room named running owned absent clean aborts q
    have goes : r.calledOff.returnStop (u.filters.get r.filter) = target := rfl
    refine ⟨fun phase => ?_, fun phase held => ?_, fun phase held => ?_, fun phase => ?_, fun q phase request bound => ?_⟩
    · rcases phase with late | ⟨waits, late⟩
      · have present : r.abortPhase = some r.phase := LineRecord.abortPhase_present
          (fun e => by rw [e] at late; exact absurd late (by decide)) fun e => by rw [e] at late; exact absurd late (by decide)
        exact acts (State.abortClean_late present late) quiet'
      · have held : r.abortPhase = r.heldPhase := LineRecord.abortPhase_held (by simpa using waits)
        simp only [List.mem_cons, List.not_mem_nil, or_false] at late
        rcases late with e | e | e <;> exact acts (State.abortClean_late (held.trans e) (by decide)) quiet'
    · exact acts (State.abortClean_held_toBackwash phase held) (quiet'.of_eq rfl rfl rfl)
    · exact acts (State.abortClean_held_backwash phase held) (quiet'.of_eq rfl rfl rfl)
    · have phase' : r.abortPhase = some .backwashRun ∧ r.phase ≠ .stopHeld := by
        rcases phase with e | ⟨e, held⟩
        · exact ⟨(LineRecord.abortPhase_present (by simp [e]) (by simp [e])).trans (congrArg some e), by simp [e]⟩
        · exact ⟨(LineRecord.abortPhase_held (.inl e)).trans held, by simp [e]⟩
      obtain ⟨run, free⟩ := phase'
      refine ⟨fun wet waits => ?_, fun dry waits => ?_⟩
      · have aborts := State.abortClean_wetted (s := u) run wet
        rw [if_neg free, State.toRinse_waits (r := r.calledOff) waits] at aborts
        exact acts aborts (quiet'.lineTravels _ _)
      · have aborts := State.abortClean_dry (s := u) run dry
        rw [if_neg free, State.beginReturning_waits (r := r.calledOff) goes waits] at aborts
        exact acts aborts (quiet'.lineTravels _ _)
    · have aborts := State.abortClean_toBackwash (s := u)
        ((LineRecord.abortPhase_present (by simp [phase]) (by simp [phase])).trans (congrArg some phase))
      rw [if_neg (by simp [phase])] at aborts
      intro ch turned
      refine ⟨fun waits => ?_, fun d n moving homing dir position low => ?_⟩
      · have still : ch.state ≠ .moving := fun e => by rw [e] at waits; exact absurd waits (by decide)
        rw [State.beginReturning_turns_still (r := r.calledOff) goes request bound still] at aborts
        exact acts aborts (quiet'.of_eq rfl rfl rfl)
      · intro stop ahead
        have way := ch.remaining_eq low target
        rw [Channel.turning_of_dir dir] at way
        rw [State.beginReturning_turns_moving (r := r.calledOff) (ahead := ahead) goes request bound moving homing position way]
          at aborts
        exact acts aborts (quiet'.of_eq rfl rfl rfl)

end Sys2Proof.Machine
end

section
/-! SUPPORT. A clean that ends in a fault (04 R87): the filter in FAULT, the Line idle with its pump off, and nothing after it in
the event that touches the filter again. O55. -/

namespace Sys2Proof.Machine

variable {s a t : State} {f : FilterId} {r : LineRecord} {kind : FaultKind}

/-! ## The filter in FAULT and the Line idle -/

/-- The state with the filter in FAULT, BACKWASH_ABORTED posted to a circuit, and the Line idle (04 R87). -/
def State.faultIdle (s : State) (f : FilterId) (kind : FaultKind) (c : Option CircuitId) : State :=
  ((s.faultFilter f kind).postTo c .backwashAborted).lineIdle

/-- A filter that has left the drive is moved by nothing once it is in FAULT and the Line is idle. -/
theorem State.faultIdle_still (awake : (s.filters.get f).state ≠ .fault) (request : s.requests.get f = none)
    (travel : f ∉ s.travelQueue) (c : Option CircuitId) :
    (s.faultIdle f kind c).Still f ∧ (s.faultIdle f kind c).filters.get f = (s.filters.get f).inFault kind ∧
      SameDrive s (s.faultIdle f kind c) ∧ (s.faultIdle f kind c).line = { s.line with clean := none } := by
  obtain ⟨record, queue, line⟩ := State.faultFilter_fields (kind := kind) awake
  have drive := SameDrive.faultFilter s f kind
  unfold State.faultIdle
  generalize s.faultFilter f kind = t at record queue line drive ⊢
  have told := drive.trans (SameDrive.postTo t c .backwashAborted)
  rw [← t.postTo_filters c .backwashAborted] at record
  rw [← t.postTo_queue c .backwashAborted] at queue
  rw [← t.postTo_line c .backwashAborted] at line
  generalize t.postTo c .backwashAborted = v at record queue line told ⊢
  refine ⟨State.lineIdle_still (.inl ?_) ?_ ?_ ?_ ?_, record, told.trans (.lineIdle v), ?_⟩
  · exact congrArg FilterRecord.state record
  · exact congrArg FilterRecord.circuit record
  · rw [queue]
    exact fun e mem => (mem_removeEntry mem).2
  · rw [told.requests]
    exact request
  · rw [told.travelQueue]
    exact travel
  · rw [State.lineIdle_line, line]

/-- FILTER_FAULT goes to port P and the filter's circuit, BACKWASH_ABORTED to the circuit given (01 R9, 04 R87). -/
theorem State.faultIdle_notices (awake : (s.filters.get f).state ≠ .fault) (c : Option CircuitId) :
    ((s.faultIdle f kind c).ports.get .plant).hasNotice .filterFault = true ∧
      (∀ k, (s.filters.get f).circuit = some k →
        ((s.faultIdle f kind c).ports.get (.circuit k)).hasNotice .filterFault = true) ∧
      ∀ k, c = some k → ((s.faultIdle f kind c).ports.get (.circuit k)).hasNotice .backwashAborted = true := by
  obtain ⟨plant, circuit⟩ := State.faultFilter_notices (kind := kind) awake
  unfold State.faultIdle
  generalize s.faultFilter f kind = t at plant circuit ⊢
  have told := ((Reacts.refl t).postTo c .backwashAborted).lineIdle
  exact ⟨told.notice plant, fun k on => told.notice (circuit k on), fun k on =>
    (Reacts.refl _).lineIdle.notice (t.postTo_notice on _)⟩

/-! ## The clean that ends in a fault (04 R87) -/

/-- The state with the pump off and the filter's loads as the end of its clean leaves them. -/
def State.cleanStopped (s : State) (r : LineRecord) : State :=
  (s.setPump false).updFilter r.filter fun x => x.afterClean r.outcome.orAborted

theorem State.faultClean_eq (s : State) (r : LineRecord) (kind : FaultKind) : s.faultClean r kind =
    (s.cleanStopped r).faultIdle r.filter kind r.startCircuit := rfl

theorem State.cleanStopped_record (s : State) (r : LineRecord) :
    (s.cleanStopped r).filters.get r.filter = (s.filters.get r.filter).cleaned r.outcome.orAborted :=
  (Bank.get_set_same ..).trans (FilterRecord.afterClean_eq _ _)

theorem FilterRecord.cleaned_state (x : FilterRecord) (o : CleanOutcome) : (x.cleaned o).state = x.state := by
  rw [← FilterRecord.afterClean_eq, FilterRecord.afterClean_state]

theorem FilterRecord.cleaned_circuit (x : FilterRecord) (o : CleanOutcome) : (x.cleaned o).circuit = x.circuit := by
  unfold FilterRecord.cleaned
  split <;> rfl

/-- What R87 leaves of a clean whose filter has failed with `kind`, its channel being `ch`: `a` is the state with the contact
that the event reports, and `t` the state at the end of the event. -/
def State.CleanFails (a t : State) (r : LineRecord) (kind : FaultKind) (ch : Channel) : Prop :=
  a.Undisturbed t ∧
    t.filters.get r.filter = ((a.filters.get r.filter).cleaned r.outcome.orAborted).inFault kind ∧
    t.requests.get r.filter = none ∧ r.filter ∉ t.travelQueue ∧ t.channels.get r.filter = ch ∧
    (∀ e ∈ t.queue, e.filter ≠ r.filter) ∧ (∀ z, t.line.clean = some z → z.filter ≠ r.filter) ∧
    (a.NoGrant → t.line = { a.line with pump := false, clean := none }) ∧
    (t.ports.get .plant).hasNotice .filterFault = true ∧
    (∀ k, (a.filters.get r.filter).circuit = some k → (t.ports.get (.circuit k)).hasNotice .filterFault = true) ∧
    ∀ k, r.startCircuit = some k → (t.ports.get (.circuit k)).hasNotice .backwashAborted = true

/-- A clean that ends in a fault, and what follows in the event: `t` is any state that the reactions make of it. -/
theorem State.faultClean_fails (clean : s.line.clean = some r) (cleaning : (s.filters.get r.filter).state = .cleaning)
    (request : s.requests.get r.filter = none) (travel : r.filter ∉ s.travelQueue)
    (follows : Reacts (s.faultClean r kind) t) (stays : ∀ P, Persistent P → P (s.faultClean r kind) → P t) :
    s.CleanFails t r kind (s.channels.get r.filter) := by
  have record := s.cleanStopped_record r
  have awake : ((s.cleanStopped r).filters.get r.filter).state ≠ .fault := by
    rw [record, FilterRecord.cleaned_state, cleaning]
    decide
  obtain ⟨still, fault, drive, line⟩ :=
    State.faultIdle_still (s := s.cleanStopped r) (kind := kind) awake request travel r.startCircuit
  obtain ⟨plant, circuit, start⟩ := State.faultIdle_notices (kind := kind) awake r.startCircuit
  rw [← State.faultClean_eq] at still fault drive line plant circuit start
  rw [record] at fault circuit
  rw [FilterRecord.cleaned_circuit] at circuit
  obtain ⟨still', fault', channel⟩ := follows.still _ still
  have undisturbed := ((Reacts.refl s).faultClean clean kind).undisturbed
  have idle (noGrant : s.NoGrant) : (s.faultClean r kind).KeepsIdle r.filter { s.line with pump := false }
      ((s.faultClean r kind).filters.get r.filter).lastOutcome :=
    ⟨noGrant.undisturbed undisturbed, line, rfl⟩
  exact ⟨undisturbed.trans follows.undisturbed, fault'.trans fault, still'.request, still'.travel,
    channel.trans (congrArg (Bank.get · r.filter) drive.channels), still'.queue, still'.line,
    fun noGrant => (stays _ (keepsIdle_persistent ..) (idle noGrant)).2.1, follows.notice plant,
    fun k on => follows.notice (circuit k on), fun k on => follows.notice (start k on)⟩

/-- The state in which the clean ends may differ by its drive from the one with the contact alone. -/
theorem State.CleanFails.before {ch : Channel} (h : s.CleanFails t r kind ch) (undisturbed : a.Undisturbed s)
    (filters : s.filters = a.filters) (line : s.line = a.line) : a.CleanFails t r kind ch := by
  obtain ⟨whole, record, request, travel, channel, queue, off, idle, plant, circuit, start⟩ := h
  rw [filters] at record circuit
  rw [line] at idle
  exact ⟨undisturbed.trans whole, record, request, travel, channel, queue, off,
    fun noGrant => idle (noGrant.undisturbed undisturbed), plant, circuit, start⟩

/-! ## The Line's travel that ends in a fault (04 R88) -/

/-- A clean whose filter travels for the Line. -/
structure State.LineTravels (s : State) (r : LineRecord) : Prop where
  clean : s.line.clean = some r
  cleaning : (s.filters.get r.filter).state = .cleaning
  request : ∃ q, s.requests.get r.filter = some q ∧ q.requester = .backwashLine

theorem State.Undisturbed.travelCleared (s : State) (f : FilterId) (o : TravelOutcome) :
    s.Undisturbed (s.travelCleared f o) :=
  { State.Undisturbed.updChannel (s := s) (f := f) (g := fun ch => ch.ended o) (Channel.ended_kept _ _) with }

/-- The Line takes the fault of its travel (05 R96, 04 R88). -/
theorem State.LineTravels.endTravel (h : s.LineTravels r) {o : TravelOutcome} (fault : o.fault = some kind) :
    s.endTravel r.filter o = ((s.travelCleared r.filter o).faultClean r kind).handOut := by
  obtain ⟨q, request, line⟩ := h.request
  refine congrArg State.handOut ?_
  rw [State.finishTravel_eq request, line]
  unfold State.deliver State.lineOutcome
  rw [show (s.travelCleared r.filter o).line.clean = some r from h.clean]
  dsimp only
  rw [if_pos rfl, fault]

/-- An event that ends the Line's travel in a fault: `contact` is the contact that it reports, `g` what else it does to the
channel before the end. -/
theorem State.LineTravels.ends {c : Instr} {X : State} (h : s.LineTravels r) (step : exec c s = .next X.finishEvent)
    (contact g : Channel → Channel) {o : TravelOutcome} (fault : o.fault = some kind)
    (comes : X = (s.updChannel r.filter fun x => g (contact x)).endTravel r.filter o)
    (kept : (contact (s.channels.get r.filter)).Kept (g (contact (s.channels.get r.filter)))) {ch : Channel}
    (channel : (g (contact (s.channels.get r.filter))).ended o = ch) :
    ∃ t, exec c s = .next t ∧ (s.updChannel r.filter contact).CleanFails t r kind ch := by
  refine ⟨_, step, ?_⟩
  generalize whole : (s.updChannel r.filter fun x => g (contact x)) = u at comes
  have travels : u.LineTravels r := by
    rw [← whole]
    exact ⟨h.clean, h.cleaning, h.request⟩
  have undisturbed : (s.updChannel r.filter contact).Undisturbed u := by
    rw [← whole, ← s.updChannel_updChannel r.filter contact g]
    refine State.Undisturbed.updChannel ?_
    rw [State.updChannel_channels, Bank.get_set_same]
    exact kept
  have ended : (u.travelCleared r.filter o).channels.get r.filter = ch := by
    rw [← channel, ← whole]
    exact (Bank.get_set_same ..).trans (congrArg (Channel.ended · o) (Bank.get_set_same ..))
  rw [comes, travels.endTravel fault]
  have fails := State.faultClean_fails (s := u.travelCleared r.filter o) (kind := kind) travels.clean travels.cleaning
    (Bank.get_set_same ..) (by simp [State.travelCleared]) (Reacts.refl _).handOut.finishEvent
    fun _ persistent holds => persistent.endOfEvent holds
  rw [ended] at fails
  exact fails.before (undisturbed.trans (.travelCleared ..)) (by rw [← whole]; rfl) (by rw [← whole]; rfl)

/-- The same where the contact is all that the event does to the channel before the end. -/
theorem State.LineTravels.endsAtOnce {c : Instr} {X : State} (h : s.LineTravels r) (step : exec c s = .next X.finishEvent)
    (contact : Channel → Channel) {o : TravelOutcome} (fault : o.fault = some kind)
    (comes : X = (s.updChannel r.filter contact).endTravel r.filter o) {ch : Channel}
    (channel : (contact (s.channels.get r.filter)).ended o = ch) :
    ∃ t, exec c s = .next t ∧ (s.updChannel r.filter contact).CleanFails t r kind ch :=
  h.ends step contact (fun ch => ch) fault comes (.refl _) channel

/-! ## A detent loss at rest (04 R89, 06 R121) -/

theorem State.detentOpen_endsClean (clean : s.line.clean = some r) (cleaning : (s.filters.get r.filter).state = .cleaning)
    (idle : (s.channels.get r.filter).state = .idle) (seated : (s.channels.get r.filter).seated = true) :
    s.detentOpen r.filter =
      (s.withChannel r.filter (s.channels.get r.filter).lostAtRest).faultClean r .positionLost := by
  unfold State.detentOpen
  dsimp only
  rw [if_pos seated, idle]
  dsimp only
  unfold State.lossAtRest
  dsimp only
  refine (if_pos cleaning).trans ?_
  rw [State.updChannel_updChannel]
  unfold State.lineDetentLoss
  rw [show (s.updChannel r.filter _).line.clean = some r from clean]
  exact if_pos rfl

theorem exec_detentLoss_endsClean (clean : s.line.clean = some r) (cleaning : (s.filters.get r.filter).state = .cleaning)
    (idle : (s.channels.get r.filter).state = .idle) (seated : (s.channels.get r.filter).seated = true)
    (request : s.requests.get r.filter = none) (travel : r.filter ∉ s.travelQueue) :
    ∃ t, exec (.detentLossAtRest r.filter) s = .next t ∧
      (s.updChannel r.filter fun y => { y with detent := false }).CleanFails t r .positionLost
        (s.channels.get r.filter).lostAtRest := by
  refine ⟨_, congrArg (fun X : State => Host.Outcome.next X.finishEvent)
    (State.detentOpen_endsClean clean cleaning idle seated), ?_⟩
  have fails := State.faultClean_fails (s := s.withChannel r.filter (s.channels.get r.filter).lostAtRest)
    (kind := .positionLost) clean cleaning request travel (Reacts.refl _).finishEvent
    fun _ persistent holds => persistent.finishEvent holds
  rw [State.withChannel_get] at fails
  have undisturbed : (s.updChannel r.filter fun y => { y with detent := false }).Undisturbed
      (s.withChannel r.filter (s.channels.get r.filter).lostAtRest) := by
    have lost := State.Undisturbed.updChannel (s := s.updChannel r.filter fun y => { y with detent := false }) (f := r.filter)
      (g := fun y => { y with state := .faulted, position := none, seated := false }) (.of _)
    rw [State.updChannel_updChannel] at lost
    exact lost
  exact fails.before undisturbed rfl rfl

/-! ## The channel of a failed travel -/

theorem Channel.ended_jammed_failedAt (ch : Channel) : ch.ended .jammed = ch.failedAt ch.position := ch.ended_jammed

theorem Channel.ended_positionLost_failedAt (ch : Channel) : ch.ended .positionLost = ch.failedAt none :=
  ch.ended_positionLost

/-- A drift of nine steps or more, as a remainder of 1,600 (06 R125). -/
theorem drift_large {d : Dir} {recorded : Nat} (low : recorded < 1600) (near : 9 ≤ driftRest d recorded)
    (far : driftRest d recorded ≤ 1591) : ¬ (drift d recorded).natAbs ≤ 8 := by
  rw [drift_eq d low]
  unfold driftRest at near far
  split <;> omega

/-- Settles O55: each event comes to the end of the Line's travel in a fault, or to a loss at rest that ends the clean. -/
theorem failedTravelsEndTheClean : Obligations.FailedTravelsEndTheClean := by
  unfold Obligations.FailedTravelsEndTheClean
  intro s r clean f ch x cleaning ends fails
  refine ⟨fun q request line => ?_, fun idle seated request travel => ?_⟩
  case refine_2 => exact exec_detentLoss_endsClean clean cleaning idle seated request travel
  have travels : s.LineTravels r := ⟨clean, cleaning, q, request, line⟩
  have endsSelf {c : Instr} {X : State} {o : TravelOutcome} {kind : FaultKind} {count : Option Nat}
      (step : exec c s = .next X.finishEvent) (fault : o.fault = some kind) (comes : X = s.endTravel f o)
      (channel : ch.ended o = ch.failedAt count) : fails c id kind count :=
    travels.endsAtOnce step id fault (by rw [comes, State.updChannel_self (g := id) rfl]) channel
  refine ⟨fun moving dir free => ?_, fun moving dir free => ?_, fun dwell free plain count cw ccw => ?_,
    fun settling timer => ?_, fun seated waits => ?_, fun e recorded edge rise place low count plain moves => ?_⟩
  · exact travels.endsAtOnce (o := .jammed) rfl (fun y => y.setTorque .cw true) rfl
      (State.torqueChange_trips moving dir free) (Channel.ended_jammed_failedAt _)
  · exact travels.endsAtOnce (o := .jammed) rfl (fun y => y.setTorque .ccw true) rfl
      (State.torqueChange_trips moving dir free) (Channel.ended_jammed_failedAt _)
  · exact endsSelf (o := .jammed) rfl rfl (State.dwellExpiry_jams request dwell free plain count cw ccw)
      (Channel.ended_jammed_failedAt _)
  · exact endsSelf (o := .positionLost) rfl rfl (State.settleTimeout_lost settling timer)
      (Channel.ended_positionLost_failedAt _)
  · exact travels.endsAtOnce (o := .positionLost) rfl (fun y => { y with detent := false }) rfl
      (State.detentOpen_lost seated waits) (Channel.ended_positionLost_failedAt _)
  · intro edgeAt rest near far
    obtain ⟨p, position⟩ := Option.isSome_iff_exists.1 count
    have same : rest = driftRest e.dir recorded := by
      cases dir : e.dir <;> simp [rest, edgeAt, driftRest, edgePlace, dir]
    have lost := State.homeEdgeConfirmed_lost request edge rise place position plain (ChannelState.takesEdge_of moves)
      (drift_large low (same ▸ near) (same ▸ far))
    exact travels.ends (o := .positionLost) rfl (fun y => { y with home := true }) (fun y => { y with edge := none }) rfl lost
      (.of _) (Channel.ended_positionLost_failedAt _)

end Sys2Proof.Machine
end

end
